-- ==== Sys2Proof/Word.lean ====
section
/-!
DEFINITION. The words of the part and the banks that hold a fixed number of like things (spec/00, 0.6 "Numbers";
spec/01, R5). A bank is a core `Vector`; its pointwise operations are written with `Vector.ofFn`, which the kernel evaluates.
-/
namespace Sys2Proof

/-- A byte of the control link (0.6). -/
abbrev Byte := BitVec 8

/-- A 16-bit word: a blanking word (R119) or a two-byte number of the control link (R179). -/
abbrev Word := BitVec 16

/-- A sample: a 24-bit two's-complement integer (R5); its value is `Sample.toInt`. -/
abbrev Sample := BitVec 24

/-- A handle: generation × 256 + slot (R21), two bytes on the link (R179). -/
abbrev Handle := BitVec 16

/-- A function applied to every entry of a bank. -/
def bankMap {α β : Type} {n : Nat} (f : α → β) (v : Vector α n) : Vector β n :=
  Vector.ofFn fun i => f v[i]

/-- A function of the index and the entry applied to every entry of a bank. -/
def bankMapIdx {α β : Type} {n : Nat} (f : Fin n → α → β) (v : Vector α n) : Vector β n :=
  Vector.ofFn fun i => f i v[i]

/-- One entry of a bank replaced. -/
def bankSet {α : Type} {n : Nat} (v : Vector α n) (i : Fin n) (x : α) : Vector α n :=
  v.set i x i.isLt

/-- One entry of a bank changed by a function. -/
def bankModify {α : Type} {n : Nat} (v : Vector α n) (i : Fin n) (f : α → α) : Vector α n :=
  bankSet v i (f v[i])

/-- The indices of a bank, in rising order. -/
def bankIndices (n : Nat) : List (Fin n) := List.finRange n

/-- Does some entry of a bank meet the test? -/
def bankAny {α : Type} {n : Nat} (p : α → Bool) (v : Vector α n) : Bool :=
  v.toList.any p

/-- A raw number as an index below `n`, where it is one. -/
def toIndex (n : Nat) (k : Nat) : Option (Fin n) :=
  if h : k < n then some ⟨k, h⟩ else none

end Sys2Proof
end

