-- ==== Sys2Proof/Config.lean ====
section
/-!
DEFINITION. What is fixed for the part (constants the spec gives) and the values the spec leaves free (opaque constants
with no body: a claim is true whatever they are). Log 7 and log 8 name the free values.
-/
namespace Sys2Proof.Config

/-- The owner code of the part's own packets (R119). -/
def ownerCode : Nat := 0xB7

/-- The part code STATUS returns (R174). -/
def partCode : Word := 0x0816#16

/-- The revision STATUS returns (R174). -/
def revision : Byte := 1#8

/-- Words of blanking per lane per line (R115). -/
def blankingWords : Nat := 64

/-- Entries an arrival FIFO holds (R96) and sample frames an embed FIFO holds (R134). -/
def fifoDepth : Nat := 16

/-- Samples a source ring holds (R98). -/
def ringDepth : Nat := 4096

/-- Entries that bring a source from PRIMING, STARVED or LOST to RUNNING (R99). -/
def primeCount : Nat := 8

/-- Ticks per millisecond of loss time (R6, R102). -/
def ticksPerMs : Nat := 48

/-- Ticks after the last line event at which a lane becomes ABSENT (R117). -/
def absenceTicks : Nat := 240

/-- Edits a batch holds (R44). -/
def editLimit : Nat := 16

/-- Items one answer of LIST_SOURCE, READ_NOTICES or READ_SOURCE_CHANGES collects, and entries one ACK takes
(R36, R38, R39, R112, R113). -/
def pageLimit : Nat := 32

/-- The largest payload of the link (R166). -/
def linkPayload : Nat := 250

/-- FREE VALUE (R175: "taken either as a whole device reset ... or not at all"): is the short RESET_N low with this
number taken as a device reset? Log 7. -/
opaque shortResetTaken : Nat → Bool

/-- FREE VALUE (R175: "is not taken"): the bytes on MISO during a transaction whose CS_N was low at the release of
RESET_N, by transaction and position. Log 8. -/
opaque untakenMiso : Nat → Nat → Byte

end Sys2Proof.Config
end

