-- ==== Sys2Proof/Syntax.lean ====
section
/-!
DEFINITION. The commands of the part: one constructor of `Instr` for each row of spec/opcode_table.json, with its operands.
The operands of a request are its payload fields as R179 and R182 lay them out, not yet judged: a byte is `Byte`, a two-byte
field is `Word` (most significant byte first), a flag byte is a `Bool` (set when non-zero, R179).
-/
namespace Sys2Proof

/-- What happened at one desk input port in the interval that ends at a sample tick (R104): the frame shifted in, 16 samples,
slot 0 first, and whether the port's push was taken before the Source Monitor's work of the tick (log 6). -/
structure DeskArrival where
  frame     : List Sample
  pushFirst : Bool
  deriving DecidableEq, Repr

/-- The two kinds of entries of the pending trigger set (R70). -/
inductive TriggerKind where
  | lost
  | quiet
  deriving DecidableEq, Repr

/-- The seven bytes of a leg in a request (R181). -/
structure RawLeg where
  source   : Byte
  mantissa : Word
  boost    : Byte
  delay    : Word
  ramp     : Byte
  deriving DecidableEq, Repr

/-- The fields ADD_EDIT carries after its slot byte (R182); `unknown` is a kind byte that names no kind. -/
inductive EditFields where
  | create (dest : Byte) (leg : RawLeg) (presence backupSource triggers failoverCode : Byte)
  | modify (handle : Handle) (mask : Byte) (leg : RawLeg)
  | retire (handle : Handle) (code : Byte)
  | revert (handle : Handle)
  | unknown (kind : Byte)
  deriving DecidableEq, Repr

/-- One entry of ACK_NOTICES (R39, R179). -/
structure NoticeAck where
  handle : Handle
  mask   : Byte
  deriving DecidableEq, Repr

/-- The commands: the rows of spec/opcode_table.json, in its order. -/
inductive Instr where
  /-- SAMPLE_TICK (R6): a rising edge of WCLK; `desk` tells of DI0 to DI3 in order. -/
  | sampleTick (desk : List DeskArrival)
  /-- REF_FRAME_PULSE (R7). -/
  | refFramePulse
  /-- INPUT_LINE_EVENT (R115, R116): one line number, 0 to 2047, and its blanking words. -/
  | inputLineEvent (lane : Fin 8) (line : Nat) (words : List Word)
  /-- DEVICE_RESET (R175): RESET_N falls; `recognised` says that it stays low for the recognised time. -/
  | deviceReset (recognised : Bool)
  /-- RESET_RELEASE (R175): RESET_N rises; `csLow` is whether CS_N is low at that moment. -/
  | resetRelease (csLow : Bool)
  /-- REQUEST (R167): a transaction with lead byte 0x52; `bytes` are the whole bytes after the lead byte. -/
  | request (bytes : List Byte)
  /-- FETCH (R170): a transaction with lead byte 0x46; `clocked` whole bytes are clocked after the lead byte. -/
  | fetch (clocked : Nat)
  /-- VOID_TRANSACTION (R165): any other transaction; `bytes` are its whole bytes, the lead byte first. -/
  | voidTransaction (bytes : List Byte)
  | status
  | readRoute (handle : Handle)
  | findDest (dest : Byte)
  | listSource (source start : Byte)
  | clearClip (handle : Handle)
  | readNotices (start : Byte)
  /-- ACK_NOTICES (R39): `entries` are the entries the count byte calls for, none where it calls for no layout. -/
  | ackNotices (count : Byte) (entries : List NoticeAck)
  | setGuards (mask : Word)
  | clearAll (force : Bool)
  | readMeters (side first count : Byte)
  | openBatch
  | addEdit (slot : Byte) (fields : EditFields)
  | armBatch (slot timing frames mode : Byte)
  | readResult (slot : Byte)
  | releaseBatch (slot : Byte)
  | cancelBatch (slot : Byte)
  | readSource (source : Byte) (clear : Bool)
  | setMonitor (lossTime q f lostEdges quietEdges : Byte)
  /-- SET_CHANGE_ENABLES (R111, R179): bit s is the enable of source s. -/
  | setChangeEnables (enables : BitVec 192)
  | readSourceChanges (start : Byte)
  | ackSources (count : Byte) (sources : List Byte)
  | setDesk (direction port : Byte) (enable : Bool)
  | readLane (lane : Byte) (clear : Bool)
  | setLane (lane : Byte) (switchLine : Word) (keepMask budget mode lowest : Byte)
  | restartLane (lane : Byte)
  | ackLanes (mask : Byte)
  | pollAlert
  | ackAlert (cls : Byte)
  | setAlert (masks mode lowest style width : Byte)
  /-- CLEAR_ALL_EXECUTE (R61, R62): step 1 of a tick. -/
  | clearAllExecute
  /-- BATCH_APPLY (R49): step 2 of a tick. -/
  | batchApply
  /-- FAILOVER_TRIGGER (R72): one entry of the pending trigger set is taken, as at step 3 of a tick. -/
  | failoverTrigger (source : Fin 192) (kind : TriggerKind)
  /-- RAMP_END (R68): the ramp of the RAMPING record in the slot ends. -/
  | rampEnd (slot : Fin 160)
  /-- RETIRE_RAMP_END (R69): the retire ramp of the RETIRING record in the slot ends. -/
  | retireRampEnd (slot : Fin 160)
  /-- SOURCE_RUNNING (R99). -/
  | sourceRunning (source : Fin 192)
  /-- CLOSE_MARK_TAKEN (R99, R100). -/
  | closeMarkTaken (source : Fin 192)
  /-- LOSS_TIMER_EXPIRY (R101). -/
  | lossTimerExpiry (source : Fin 192)
  /-- PRESENCE_TIMEOUT (R117). -/
  | presenceTimeout (lane : Fin 8)
  /-- PULSE_END (R159). -/
  | pulseEnd
  /-- QUIET_ENTERED (R94). -/
  | quietEntered (source : Fin 192)
  /-- BATCH_DUE (R10). -/
  | batchDue (slot : Fin 4)
  /-- SET_LANE_IN_FORCE (R131, R148). -/
  | setLaneInForce (lane : Fin 8)
  /-- CLOSE_PACKET_GRANT (R138). -/
  | closePacketGrant (lane bundle : Fin 8)
  /-- DESK_FRAME_IN_PROGRESS_COMPLETED (R185): the frames DI0 to DI3 shifted in to their end. -/
  | deskFrameInProgressCompleted (frames : List (List Sample))
  deriving DecidableEq, Repr

end Sys2Proof
end

