-- ==== Sys2Proof/Decode.lean ====
section
/-!
DEFINITION. Decoding. No row of spec/opcode_table.json gives bits, so `decodeTableWord` answers none (log 24). What the part
itself decodes is a request: a command code, a length byte and payload bytes (R168, R178, R179, R182), total on any bytes,
rejecting by name (BAD_COMMAND, BAD_LENGTH). After it stands the encoder of requests.
-/
namespace Sys2Proof

/-- The command a table word spells: the table's rows have no bits (log 24). -/
def decodeTableWord (nbits w : Nat) : Option Instr :=
  match nbits, w with
  | _, _ => none

/-- Two bytes as a word, most significant byte first (R165, R179). -/
def wordOf (hi lo : Byte) : Word := hi ++ lo

/-- The more significant byte of a word. -/
def hiByte (w : Word) : Byte := w.extractLsb' 8 8

/-- The less significant byte of a word. -/
def loByte (w : Word) : Byte := w.extractLsb' 0 8

/-- The bytes of a word in the order they are sent (R165). -/
def wordBytes (w : Word) : List Byte := [hiByte w, loByte w]

/-- A flag byte of a request is set when it is non-zero (R179). -/
def flagOf (b : Byte) : Bool := b != 0#8

/-- A flag byte as this encoder writes it. -/
def flagByte (f : Bool) : Byte := if f then 1#8 else 0#8

/-- What the link makes of an accepted request (R168). -/
inductive LinkDecode where
  | badCommand
  | badLength
  | command (i : Instr)
  deriving DecidableEq, Repr

/-- A payload of no bytes. -/
def payload0 (i : Instr) (p : List Byte) : Option Instr :=
  match p with
  | [] => some i
  | _  => none

/-- A payload of one byte. -/
def payload1 (f : Byte → Instr) (p : List Byte) : Option Instr :=
  match p with
  | [a] => some (f a)
  | _   => none

/-- A payload of two bytes. -/
def payload2 (f : Byte → Byte → Instr) (p : List Byte) : Option Instr :=
  match p with
  | [a, b] => some (f a b)
  | _      => none

/-- A payload of three bytes. -/
def payload3 (f : Byte → Byte → Byte → Instr) (p : List Byte) : Option Instr :=
  match p with
  | [a, b, c] => some (f a b c)
  | _         => none

/-- A payload of four bytes. -/
def payload4 (f : Byte → Byte → Byte → Byte → Instr) (p : List Byte) : Option Instr :=
  match p with
  | [a, b, c, d] => some (f a b c d)
  | _            => none

/-- A payload of five bytes. -/
def payload5 (f : Byte → Byte → Byte → Byte → Byte → Instr) (p : List Byte) : Option Instr :=
  match p with
  | [a, b, c, d, e] => some (f a b c d e)
  | _               => none

/-- The seven bytes of SET_LANE (R179). -/
def payloadLane (p : List Byte) : Option Instr :=
  match p with
  | [n, hi, lo, keep, budget, mode, lowest] => some (.setLane n (wordOf hi lo) keep budget mode lowest)
  | _ => none

/-- The fields of ADD_EDIT after its slot byte (R182). A kind byte that names no kind has no layout, and its length is not
judged (R168). -/
def decodeEditFields (kind : Byte) (p : List Byte) : Option EditFields :=
  match kind.toNat with
  | 1 =>
    match p with
    | [dest, s, mh, ml, b, dh, dl, r, pres, bs, tr, fc] =>
      some (.create dest ⟨s, wordOf mh ml, b, wordOf dh dl, r⟩ pres bs tr fc)
    | _ => none
  | 2 =>
    match p with
    | [hh, hl, mask, s, mh, ml, b, dh, dl, r] =>
      some (.modify (wordOf hh hl) mask ⟨s, wordOf mh ml, b, wordOf dh dl, r⟩)
    | _ => none
  | 3 =>
    match p with
    | [hh, hl, code] => some (.retire (wordOf hh hl) code)
    | _ => none
  | 4 =>
    match p with
    | [hh, hl] => some (.revert (wordOf hh hl))
    | _ => none
  | _ => some (.unknown kind)

/-- The payload of ADD_EDIT; one of fewer than 2 bytes is too short to hold the kind (R168). -/
def payloadEdit (p : List Byte) : Option Instr :=
  match p with
  | slot :: kind :: rest => (decodeEditFields kind rest).map (.addEdit slot)
  | _ => none

/-- Exactly `n` entries of three bytes (R179, ACK_NOTICES). -/
def decodeAcks (n : Nat) (p : List Byte) : Option (List NoticeAck) :=
  match n, p with
  | 0, [] => some []
  | n + 1, hi :: lo :: mask :: rest => (decodeAcks n rest).map (⟨wordOf hi lo, mask⟩ :: ·)
  | _, _ => none

/-- A count with a layout: 1 to 32 (R168, R179). -/
def countHasLayout (count : Byte) : Bool := 1 ≤ count.toNat ∧ count.toNat ≤ Config.pageLimit

/-- The payload of ACK_NOTICES: the count decides the length, and one without a layout is not judged by length (R168). -/
def payloadAckNotices (p : List Byte) : Option Instr :=
  match p with
  | [] => none
  | count :: rest =>
    if countHasLayout count then (decodeAcks count.toNat rest).map (.ackNotices count)
    else some (.ackNotices count [])

/-- The payload of ACK_SOURCES (R168, R179). -/
def payloadAckSources (p : List Byte) : Option Instr :=
  match p with
  | [] => none
  | count :: rest =>
    if countHasLayout count then
      if rest.length = count.toNat then some (.ackSources count rest) else none
    else some (.ackSources count [])

/-- The 24 bytes of SET_CHANGE_ENABLES as one set: source s is bit s mod 8 of byte s ÷ 8 (R179). -/
def enablesOf (p : List Byte) : BitVec 192 :=
  p.foldr (fun b acc => (acc <<< 8) ||| b.setWidth 192) 0#192

/-- The set of enables as its 24 bytes. -/
def enableBytes (e : BitVec 192) : List Byte :=
  (List.range 24).map fun i => e.extractLsb' (8 * i) 8

/-- The payload of SET_CHANGE_ENABLES. -/
def payloadEnables (p : List Byte) : Option Instr :=
  if p.length = 24 then some (.setChangeEnables (enablesOf p)) else none

/-- The command codes of R179. -/
def commandCodes : List Nat :=
  [0x01, 0x10, 0x11, 0x12, 0x13, 0x14, 0x15, 0x16, 0x17, 0x18] ++
  [0x20, 0x21, 0x22, 0x23, 0x24, 0x25, 0x30, 0x31, 0x32, 0x33] ++
  [0x34, 0x35, 0x40, 0x41, 0x42, 0x43, 0x50, 0x51, 0x52]

/-- The command a code names, with the payload it accepts (R179). -/
def decodePayload (code : Nat) (p : List Byte) : Option Instr :=
  match code with
  | 0x01 => payload0 .status p
  | 0x10 => payload2 (fun a b => .readRoute (wordOf a b)) p
  | 0x11 => payload1 .findDest p
  | 0x12 => payload2 .listSource p
  | 0x13 => payload2 (fun a b => .clearClip (wordOf a b)) p
  | 0x14 => payload1 .readNotices p
  | 0x15 => payloadAckNotices p
  | 0x16 => payload2 (fun a b => .setGuards (wordOf a b)) p
  | 0x17 => payload1 (fun a => .clearAll (flagOf a)) p
  | 0x18 => payload3 .readMeters p
  | 0x20 => payload0 .openBatch p
  | 0x21 => payloadEdit p
  | 0x22 => payload4 .armBatch p
  | 0x23 => payload1 .readResult p
  | 0x24 => payload1 .releaseBatch p
  | 0x25 => payload1 .cancelBatch p
  | 0x30 => payload2 (fun a b => .readSource a (flagOf b)) p
  | 0x31 => payload5 .setMonitor p
  | 0x32 => payloadEnables p
  | 0x33 => payload1 .readSourceChanges p
  | 0x34 => payloadAckSources p
  | 0x35 => payload3 (fun a b c => .setDesk a b (flagOf c)) p
  | 0x40 => payload2 (fun a b => .readLane a (flagOf b)) p
  | 0x41 => payloadLane p
  | 0x42 => payload1 .restartLane p
  | 0x43 => payload1 .ackLanes p
  | 0x50 => payload0 .pollAlert p
  | 0x51 => payload1 .ackAlert p
  | 0x52 => payload5 .setAlert p
  | _    => none

/-- The link's judgement of an accepted request: BAD_COMMAND before BAD_LENGTH (R168). `p` is what the request slot
holds of the payload; a length over 250 stores none (R167). -/
def decodeRequest (code length : Byte) (p : List Byte) : LinkDecode :=
  if commandCodes.contains code.toNat then
    if Config.linkPayload < length.toNat then .badLength
    else
      match decodePayload code.toNat p with
      | some i => .command i
      | none   => .badLength
  else .badCommand

/-! The encoder, from the same tables. -/

/-- The seven bytes of a leg (R181). -/
def legBytes (l : RawLeg) : List Byte :=
  [l.source] ++ wordBytes l.mantissa ++ [l.boost] ++ wordBytes l.delay ++ [l.ramp]

/-- The kind byte and the fields of an edit (R182). -/
def editBytes (f : EditFields) : List Byte :=
  match f with
  | .create dest leg pres bs tr fc => [1#8, dest] ++ legBytes leg ++ [pres, bs, tr, fc]
  | .modify h mask leg => [2#8] ++ wordBytes h ++ [mask] ++ legBytes leg
  | .retire h code => [3#8] ++ wordBytes h ++ [code]
  | .revert h => [4#8] ++ wordBytes h
  | .unknown kind => [kind]

/-- The bytes of an ACK_NOTICES entry (R179). -/
def ackBytes (a : NoticeAck) : List Byte := wordBytes a.handle ++ [a.mask]

/-- The command code and payload of a request; none for the rows that are no request. -/
def encodeRequest (i : Instr) : Option (Byte × List Byte) :=
  match i with
  | .status => some (0x01#8, [])
  | .readRoute h => some (0x10#8, wordBytes h)
  | .findDest d => some (0x11#8, [d])
  | .listSource s st => some (0x12#8, [s, st])
  | .clearClip h => some (0x13#8, wordBytes h)
  | .readNotices st => some (0x14#8, [st])
  | .ackNotices c es => some (0x15#8, c :: es.flatMap ackBytes)
  | .setGuards m => some (0x16#8, wordBytes m)
  | .clearAll f => some (0x17#8, [flagByte f])
  | .readMeters s f c => some (0x18#8, [s, f, c])
  | .openBatch => some (0x20#8, [])
  | .addEdit slot f => some (0x21#8, slot :: editBytes f)
  | .armBatch s t f m => some (0x22#8, [s, t, f, m])
  | .readResult s => some (0x23#8, [s])
  | .releaseBatch s => some (0x24#8, [s])
  | .cancelBatch s => some (0x25#8, [s])
  | .readSource s c => some (0x30#8, [s, flagByte c])
  | .setMonitor l q f le qe => some (0x31#8, [l, q, f, le, qe])
  | .setChangeEnables e => some (0x32#8, enableBytes e)
  | .readSourceChanges s => some (0x33#8, [s])
  | .ackSources c ss => some (0x34#8, c :: ss)
  | .setDesk d p e => some (0x35#8, [d, p, flagByte e])
  | .readLane n c => some (0x40#8, [n, flagByte c])
  | .setLane n sl k b m lo => some (0x41#8, [n] ++ wordBytes sl ++ [k, b, m, lo])
  | .restartLane n => some (0x42#8, [n])
  | .ackLanes m => some (0x43#8, [m])
  | .pollAlert => some (0x50#8, [])
  | .ackAlert c => some (0x51#8, [c])
  | .setAlert ms m lo st w => some (0x52#8, [ms, m, lo, st, w])
  | .sampleTick _ | .refFramePulse | .inputLineEvent _ _ _ | .deviceReset _ | .resetRelease _ | .request _ | .fetch _
  | .voidTransaction _ | .clearAllExecute | .batchApply | .failoverTrigger _ _ | .rampEnd _ | .retireRampEnd _
  | .sourceRunning _ | .closeMarkTaken _ | .lossTimerExpiry _ | .presenceTimeout _ | .pulseEnd | .quietEntered _
  | .batchDue _ | .setLaneInForce _ | .closePacketGrant _ _ | .deskFrameInProgressCompleted _ => none

/-- The bytes of a REQUEST transaction after its lead byte: command code, length, payload (R178). -/
def requestBytes (code : Byte) (p : List Byte) : List Byte :=
  code :: BitVec.ofNat 8 p.length :: p

end Sys2Proof
end

