-- ==== Sys2Proof/Machine/State.lean ====
section
/-!
DEFINITION. The state of the part as plain data, block by block, its value right after reset, and the reasons a step can stop.
-/
namespace Sys2Proof.Machine

/-! ## Route Table (chapters 2, 4, 5) -/

/-- What a leg reads: a source track or SILENCE (R1, R2, R17). -/
inductive LegSource where
  | track (n : Fin 192)
  | silence
  deriving DecidableEq, Repr

/-- A leg, every field within its range (R17). -/
structure Leg where
  source   : LegSource
  /-- Signed gain fraction m / 32768. -/
  mantissa : BitVec 16
  boost    : Fin 3
  delay    : Fin 3841
  code     : Fin 8
  retire   : Bool
  deriving DecidableEq, Repr

/-- A running transition: the leg being faded out, the ramp length R and the position k (R16, R64). -/
structure Ramp where
  fading   : Leg
  length   : Nat
  position : Nat
  deriving DecidableEq, Repr

/-- The states of a record that is not FREE, with the legs each state holds beside the current leg (R16, R17). -/
inductive Phase where
  | live
  | ramping (ramp : Ramp) (next : Option Leg)
  | retiring (ramp : Ramp)
  deriving DecidableEq, Repr

/-- The backup part of a record (R18). -/
structure Backup where
  source  : Fin 192
  onLost  : Bool
  onQuiet : Bool
  code    : Fin 8
  deriving DecidableEq, Repr

/-- The three notices of a record (R20). -/
structure Notices where
  failoverTaken  : Bool
  backupUnusable : Bool
  backupLost     : Bool
  deriving DecidableEq, Repr

/-- A route record (R16). -/
structure Record where
  dest     : Fin 192
  current  : Leg
  phase    : Phase
  primary  : LegSource
  backup   : Option Backup
  onBackup : Bool
  clip     : Bool
  notices  : Notices
  deriving DecidableEq, Repr

/-- A record slot: its generation, which persists, and its record; a FREE slot holds none (R16). -/
structure RecordSlot where
  gen    : Byte
  record : Option Record
  deriving DecidableEq, Repr

/-- A meter (R90). -/
structure Meter where
  running : Nat
  peak    : Nat
  level   : Nat
  deriving DecidableEq, Repr

/-- The Route Table. `pendingLost` and `pendingQuiet` are the pending trigger set of R70, one flag for each (source, kind). -/
structure RouteTable where
  slots        : Vector RecordSlot 160
  destMap      : Vector (Option (Fin 160)) 192
  guards       : BitVec 12
  /-- A pending CLEAR_ALL with its force flag (R60). -/
  clearAll     : Option Bool
  pendingLost  : Vector Bool 192
  pendingQuiet : Vector Bool 192
  destSamples  : Vector Sample 192
  destMeters   : Vector Meter 192
  deriving DecidableEq, Repr

/-! ## Edit Stage (chapter 3) -/

/-- The fields a MODIFY names, each with its new value (R46). -/
structure LegPatch where
  source   : Option LegSource
  mantissa : Option (BitVec 16)
  boost    : Option (Fin 3)
  delay    : Option (Fin 3841)
  code     : Option (Fin 8)
  deriving DecidableEq, Repr

/-- An edit that has passed check 4 of ADD_EDIT (R45 to R47). -/
inductive Edit where
  | create (dest : Fin 192) (leg : Leg) (backup : Option Backup)
  | modify (handle : Handle) (patch : LegPatch)
  | retire (handle : Handle) (code : Fin 8)
  | revert (handle : Handle)
  deriving DecidableEq, Repr

/-- An edit in an edit list, with the destination that check 7 compares (R44). -/
structure ListedEdit where
  edit : Edit
  dest : Fin 192
  deriving DecidableEq, Repr

/-- Batch modes (R48). -/
inductive BatchMode where
  | each
  | allOrNone
  deriving DecidableEq, Repr

/-- Timing sources (R10). -/
inductive TimingSource where
  | lane (n : Fin 8)
  | ref
  | immediate
  deriving DecidableEq, Repr

/-- The timing entry of an ARMED slot (R10); for IMMEDIATE the remaining count is held as 0 (log 11). -/
structure Timing where
  source    : TimingSource
  remaining : Nat
  due       : Bool
  deriving DecidableEq, Repr

/-- Edit kinds (R180). -/
inductive EditKind where
  | create
  | modify
  | retire
  | revert
  deriving DecidableEq, Repr

/-- Edit outcomes (R49). -/
inductive EditOutcome where
  | applied
  | deferred
  | already
  | stale
  | guarded
  | destBusy
  | tableFull
  | routeRetiring
  | notOnBackup
  | skipped
  deriving DecidableEq, Repr

/-- Batch outcomes (R54, R55). -/
inductive BatchOutcome where
  | complete
  | partially
  | aborted
  deriving DecidableEq, Repr

/-- One entry of a result (R56). -/
structure ResultEntry where
  kind    : EditKind
  dest    : Fin 192
  outcome : EditOutcome
  handle  : Handle
  deriving DecidableEq, Repr

/-- A result (R56); the number of edits is the number of entries. -/
structure BatchResult where
  mode    : BatchMode
  arming  : Byte
  outcome : BatchOutcome
  entries : List ResultEntry
  deriving DecidableEq, Repr

/-- A batch slot with the parts its state holds (R41). -/
inductive BatchSlot where
  | free
  | opened (edits : List ListedEdit)
  | armed (edits : List ListedEdit) (mode : BatchMode) (timing : Timing) (arming : Byte)
  | done (result : BatchResult)
  deriving DecidableEq, Repr

/-- The Edit Stage (R41, R42). -/
structure EditStage where
  slots      : Vector BatchSlot 4
  queue      : List (Fin 4)
  nextArming : Byte
  deriving DecidableEq, Repr

/-! ## Source Monitor (chapters 5, 6) -/

/-- Source states (6.2). -/
inductive SourceState where
  | idle
  | priming
  | running
  | starved
  | lost
  deriving DecidableEq, Repr

/-- An arrival FIFO entry (R96). -/
inductive Arrival where
  | sample (x : Sample)
  | closeMark
  deriving DecidableEq, Repr

/-- A source track. The ring lists the last 4096 samples, newest first, without its trailing zeros (log 14). -/
structure Source where
  state        : SourceState
  fifo         : List Arrival
  ring         : List Sample
  /-- The loss timer: stopped (none) or its count (R102). -/
  timer        : Option Nat
  quiet        : Bool
  quietCount   : Nat
  underrun     : Nat
  overrun      : Nat
  meter        : Meter
  changeFlag   : Bool
  changeEnable : Bool
  deriving DecidableEq, Repr

/-- Edge selections (R109). -/
inductive EdgeSelect where
  | enter
  | leave
  | both
  deriving DecidableEq, Repr

/-- The global monitor settings (R109). -/
structure MonitorSettings where
  lossTime    : Nat
  quietLevel  : Nat
  quietFrames : Nat
  lostEdges   : EdgeSelect
  quietEdges  : EdgeSelect
  deriving DecidableEq, Repr

/-- The Source Monitor. -/
structure SourceMonitor where
  sources  : Vector Source 192
  settings : MonitorSettings
  deriving DecidableEq, Repr

/-! ## Lane Engines (chapters 7, 8) -/

/-- Presence; the presence count runs only while PRESENT (R117). -/
inductive Presence where
  | absent
  | present (count : Nat)
  deriving DecidableEq, Repr

/-- FIXED or ROTATE: arbiter modes (R147) and alert priority modes (R156). -/
inductive PriorityMode where
  | fixed
  | rotate
  deriving DecidableEq, Repr

/-- The five settings of a lane (R131). -/
structure LaneSettings where
  switchLine : Nat
  keepMask   : BitVec 8
  budget     : Nat
  mode       : PriorityMode
  lowest     : Fin 8
  deriving DecidableEq, Repr

/-- An input bundle: its sequence reference (NONE = none) and gap counter (R126). -/
structure InBundle where
  seqRef : Option Byte
  gap    : Nat
  deriving DecidableEq, Repr

/-- Bundle activity (R134). -/
inductive Activity where
  | inactive
  | active
  | closing
  deriving DecidableEq, Repr

/-- A sample frame: track A, track B (R5). -/
structure Frame where
  a : Sample
  b : Sample
  deriving DecidableEq, Repr

/-- An output bundle (R134). -/
structure OutBundle where
  activity : Activity
  fifo     : List Frame
  seq      : Byte
  overflow : Nat
  deriving DecidableEq, Repr

/-- An output line: its line number, its packets in order (kept packets, then granted ones), and how many were granted;
idle words fill it up to 64 (R139). -/
structure OutLine where
  number  : Nat
  packets : List (List Word)
  granted : Nat
  /-- The bundles whose turn in the line's grant order comes after the last grant; none once its arbitration has ended (R142,
  R146; log 16). -/
  turns   : List (Fin 8)
  deriving DecidableEq, Repr

/-- A Lane Engine, receive and transmit side. -/
structure Lane where
  presence        : Presence
  changeFlag      : Bool
  settings        : LaneSettings
  pendingSettings : Option LaneSettings
  excess          : Nat
  truncated       : Nat
  checkError      : Nat
  malformed       : Nat
  inBundles       : Vector InBundle 8
  outBundles      : Vector OutBundle 8
  pointer         : Fin 8
  /-- The output line last handed to the external transmitter (log 13). -/
  outLine         : Option OutLine
  deriving DecidableEq, Repr

/-! ## Desk Ports (R104, R105, R152, R153, R184, R185) -/

/-- What a desk input port has of a frame it may push: nothing, the frame it is shifting in, or a frame held complete. -/
inductive DeskShift where
  | nothing
  | shifting
  | held (frame : List Sample)
  deriving DecidableEq, Repr

/-- A desk input port. -/
structure DeskIn where
  enabled : Bool
  shift   : DeskShift
  deriving DecidableEq, Repr

/-- A desk output port: its enable and the samples of the 16 slots on its data output. -/
structure DeskOut where
  enabled : Bool
  frame   : Vector Sample 16
  deriving DecidableEq, Repr

/-- The desk ports; all run on one bit clock and begin their frames together (R152). -/
structure Desk where
  clock   : Bool
  framing : Bool
  ins     : Vector DeskIn 4
  outs    : Vector DeskOut 4
  deriving DecidableEq, Repr

/-! ## Alert Controller (chapter 9) -/

/-- Alert classes, in the order of their cycle (R154, R156). -/
inductive AlertClass where
  | source
  | route
  | lane
  | batch
  deriving DecidableEq, Repr

/-- One flag for each alert class. -/
structure ClassFlags where
  source : Bool
  route  : Bool
  lane   : Bool
  batch  : Bool
  deriving DecidableEq, Repr

/-- Pin styles (R158, R159). -/
inductive PinStyle where
  | level
  | pulse
  deriving DecidableEq, Repr

/-- The Alert Controller (R155); `pulse` is the pulse count, none when stopped. -/
structure AlertController where
  masked    : ClassFlags
  inService : ClassFlags
  mode      : PriorityMode
  pointer   : AlertClass
  style     : PinStyle
  width     : Nat
  pulse     : Option Nat
  deriving DecidableEq, Repr

/-! ## Control Link (chapter 10) -/

/-- Status codes (R180). -/
inductive Status where
  | ok
  | none
  | range
  | stale
  | alreadyOpen
  | noSlot
  | notOpen
  | batchFull
  | duplicate
  | empty
  | notDone
  | badState
  | tooLate
  | badCommand
  | badLength
  | nothing
  deriving DecidableEq, Repr

/-- A response: status and payload; the length is the payload's (R166). -/
structure Response where
  status  : Status
  payload : List Byte
  deriving DecidableEq, Repr

/-- The link state; PROCESSING holds the request handed over, RESPONSE_READY the response buffer (R166). -/
inductive LinkState where
  | idle
  | processing (request : Instr)
  | ready (response : Response)
  deriving DecidableEq, Repr

/-- The Control Link (R166). -/
structure Link where
  state   : LinkState
  /-- The request slot: command code, length and payload bytes of the REQUEST being received. -/
  slot    : List Byte
  fresh   : Bool
  overrun : Bool
  short   : Bool
  /-- The transaction on the pins began before the release of RESET_N and is not taken (R175). -/
  csHeld  : Bool
  /-- The bytes driven on MISO in the last transaction (log 13). -/
  miso    : List Byte
  deriving DecidableEq, Repr

/-! ## The part -/

/-- Reasons to stop with a fault: the hardware has none. It answers codes, counts errors and discards (R168, R180). -/
inductive Fault where
  deriving DecidableEq, Repr

/-- Reasons to refuse a command. -/
inductive Refusal where
  /-- Raised by `exec` for a row that has no meaning yet (safe: nothing is claimed of it). -/
  | notModelled (mnemonic : String)
  /-- Raised by the events SAMPLE_TICK, INPUT_LINE_EVENT, VOID_TRANSACTION and DESK_FRAME_IN_PROGRESS_COMPLETED on an operand
  no environment can send (`wellFormed` is false: R104, R115, R165). Safe: the hardware never meets it (log 12). -/
  | illFormed
  deriving DecidableEq, Repr

/-- The state of the part. -/
structure State where
  /-- RESET_N is low (R175). -/
  rstLow       : Bool
  route        : RouteTable
  edit         : EditStage
  monitor      : SourceMonitor
  /-- The open metering window holds a sample tick (R8). -/
  windowTicked : Bool
  lanes        : Vector Lane 8
  desk         : Desk
  alert        : AlertController
  link         : Link
  /-- The model's own counter from which free values are drawn (log 10). -/
  freeCount    : Nat
  /-- The commands that wait, first in, first out: the model's own queue. -/
  pending      : List Instr
  deriving DecidableEq, Repr

/-! ## Reset values -/

/-- A meter after reset (R90). -/
def resetMeter : Meter := ⟨0, 0, 23⟩

/-- The Route Table after reset (R40, R82, R89, R90). -/
def resetRoute : RouteTable where
  slots        := Vector.replicate 160 ⟨1#8, none⟩
  destMap      := Vector.replicate 192 none
  guards       := 0#12
  clearAll     := none
  pendingLost  := Vector.replicate 192 false
  pendingQuiet := Vector.replicate 192 false
  destSamples  := Vector.replicate 192 0#24
  destMeters   := Vector.replicate 192 resetMeter

/-- The Edit Stage after reset (R63). -/
def resetEdit : EditStage where
  slots      := Vector.replicate 4 .free
  queue      := []
  nextArming := 0#8

/-- A source after reset (R114). -/
def resetSource : Source where
  state        := .idle
  fifo         := []
  ring         := []
  timer        := none
  quiet        := false
  quietCount   := 0
  underrun     := 0
  overrun      := 0
  meter        := resetMeter
  changeFlag   := false
  changeEnable := false

/-- The monitor settings after reset (R109). -/
def resetSettings : MonitorSettings := ⟨20, 20, 50, .both, .both⟩

/-- The settings of a lane after reset (R131). -/
def resetLaneSettings : LaneSettings := ⟨7, 0#8, 8, .rotate, 7⟩

/-- A lane after reset (R133, R151). -/
def resetLane : Lane where
  presence        := .absent
  changeFlag      := false
  settings        := resetLaneSettings
  pendingSettings := none
  excess          := 0
  truncated       := 0
  checkError      := 0
  malformed       := 0
  inBundles       := Vector.replicate 8 ⟨none, 0⟩
  outBundles      := Vector.replicate 8 ⟨.inactive, [], 0#8, 0⟩
  pointer         := 7
  outLine         := none

/-- The desk ports after reset (R105, R184). -/
def resetDesk : Desk where
  clock   := false
  framing := false
  ins     := Vector.replicate 4 ⟨false, .nothing⟩
  outs    := Vector.replicate 4 ⟨false, Vector.replicate 16 0#24⟩

/-- The Alert Controller after reset (R155, R164). -/
def resetAlert : AlertController where
  masked    := ⟨true, true, true, true⟩
  inService := ⟨false, false, false, false⟩
  mode      := .fixed
  pointer   := .batch
  style     := .level
  width     := 1
  pulse     := none

/-- The Control Link after reset (R166). -/
def resetLink : Link where
  state   := .idle
  slot    := []
  fresh   := true
  overrun := false
  short   := false
  csHeld  := false
  miso    := []

/-- The part right after reset, RESET_N released, nothing taken yet (R175; log 1). -/
def State.reset : State where
  rstLow       := false
  route        := resetRoute
  edit         := resetEdit
  monitor      := ⟨Vector.replicate 192 resetSource, resetSettings⟩
  windowTicked := false
  lanes        := Vector.replicate 8 resetLane
  desk         := resetDesk
  alert        := resetAlert
  link         := resetLink
  freeCount    := 0
  pending      := []

end Sys2Proof.Machine
end

