-- ==== Sys2Proof/Machine/Flags.lean ====
section
/-!
DEFINITION. The flags and indications the part computes: sample magnitudes, level codes and meters (R5, R90, R91), the four
class requests, the eligible set and ALERT_N (R154 to R159), RDY (R166), the link's flag bytes (R171, R178).
-/
namespace Sys2Proof.Machine

/-- A 16-bit counter that stops at 65535 (0.6 "Counters"; R107, R129, R136). -/
def satAdd (counter n : Nat) : Nat := min (counter + n) 65535

/-- The magnitude of a sample; that of −8388608 is taken as 8388607 (R5). -/
def magnitude (x : Sample) : Nat := min x.toInt.natAbs 8388607

/-- The level code of a frame peak: 23 for 0, else 22 − j with 2^j ≤ P < 2^(j + 1) (R91). -/
def levelCode (peak : Nat) : Nat := if peak = 0 then 23 else 22 - Nat.log2 peak

/-- A meter takes a sample (R90). -/
def meterTake (m : Meter) (x : Sample) : Meter := { m with running := max m.running (magnitude x) }

/-- A meter at a pulse that closes a non-empty window (R91). -/
def meterLatch (m : Meter) : Meter := ⟨0, m.running, levelCode m.running⟩

/-! ## Alert classes -/

/-- The flag of a class. -/
def classFlag (f : ClassFlags) (c : AlertClass) : Bool :=
  match c with
  | .source => f.source
  | .route  => f.route
  | .lane   => f.lane
  | .batch  => f.batch

/-- The flags with that of one class replaced. -/
def setClassFlag (f : ClassFlags) (c : AlertClass) (b : Bool) : ClassFlags :=
  match c with
  | .source => { f with source := b }
  | .route  => { f with route := b }
  | .lane   => { f with lane := b }
  | .batch  => { f with batch := b }

/-- Is the flag of some class set? -/
def anyClass (f : ClassFlags) : Bool := f.source || f.route || f.lane || f.batch

/-- The class that follows in the cycle SOURCE, ROUTE, LANE, BATCH (R156). -/
def nextClass (c : AlertClass) : AlertClass :=
  match c with
  | .source => .route
  | .route  => .lane
  | .lane   => .batch
  | .batch  => .source

/-- The classes from highest to lowest priority: from the one after the pointer to the pointer's (R156). -/
def priorityOrder (p : AlertClass) : List AlertClass :=
  [nextClass p, nextClass (nextClass p), nextClass (nextClass (nextClass p)), p]

/-- The classes of equal or higher priority than a class (R157). -/
def atOrAbove (p c : AlertClass) : List AlertClass :=
  (priorityOrder p).takeWhile (· ≠ c) ++ [c]

/-- Has a record a notice set? (R20) -/
def hasNotice (n : Notices) : Bool := n.failoverTaken || n.backupUnusable || n.backupLost

/-- Does a slot hold a record with a notice set? -/
def slotHasNotice (sl : RecordSlot) : Bool :=
  match sl.record with
  | some r => hasNotice r.notices
  | none   => false

/-- Is a batch slot DONE? -/
def isDone (b : BatchSlot) : Bool :=
  match b with
  | .done _ => true
  | .free | .opened _ | .armed .. => false

/-- The four requests, as the owning blocks present them (R154; R110, R20, R118, R56). -/
def requests (s : State) : ClassFlags where
  source := bankAny (fun src => src.changeFlag) s.monitor.sources
  route  := bankAny slotHasNotice s.route.slots
  lane   := bankAny (fun l => l.changeFlag) s.lanes
  batch  := bankAny isDone s.edit.slots

/-- Is a class eligible: requesting, unmasked, and no class of equal or higher priority in service? (R157) -/
def eligible (req : ClassFlags) (a : AlertController) (c : AlertClass) : Bool :=
  classFlag req c && !classFlag a.masked c && !(atOrAbove a.pointer c).any (classFlag a.inService)

/-- The eligible set (R157). -/
def eligibleSet (req : ClassFlags) (a : AlertController) : ClassFlags where
  source := eligible req a .source
  route  := eligible req a .route
  lane   := eligible req a .lane
  batch  := eligible req a .batch

/-- The eligible set of the part (R157). -/
def eligibleNow (s : State) : ClassFlags := eligibleSet (requests s) s.alert

/-- The highest eligible class (R157). -/
def highestEligible (s : State) : Option AlertClass :=
  (priorityOrder s.alert.pointer).find? fun c => eligible (requests s) s.alert c

/-- The one indication handed to the Control Link: the eligible set is not empty (R163). -/
def alertWaiting (s : State) : Bool := anyClass (eligibleNow s)

/-- ALERT_N is asserted: in LEVEL style exactly while the eligible set is not empty, in PULSE style while the pulse count
runs (R158, R159); it is held negated while RESET_N is low (R175). -/
def alertAsserted (s : State) : Bool :=
  !s.rstLow &&
    match s.alert.style with
    | .level => alertWaiting s
    | .pulse => s.alert.pulse.isSome

/-- RDY is asserted while the link is RESPONSE_READY (R166). -/
def rdyAsserted (s : State) : Bool :=
  match s.link.state with
  | .ready _ => true
  | .idle | .processing _ => false

/-- MISO is driven exactly while CS_N is low and RESET_N is high; at other times it is released to high impedance (R175, R176). -/
def misoDriven (csLow : Bool) (s : State) : Bool := csLow && !s.rstLow

/-- Is MISO driven between two events? CS_N is low there only in a transaction that was low at the release of RESET_N (R175);
every other transaction is one event, with CS_N high before and after it (log 5). -/
def misoDrivenNow (s : State) : Bool := misoDriven s.link.csHeld s

/-! ## Flag bytes of the link -/

/-- A byte with FRESH, OVERRUN, SHORT and ALERT in bits 7 to 4 (R178). -/
def flagNibble (fresh overrun short alert : Bool) : Byte :=
  (if fresh then 0x80#8 else 0#8) ||| (if overrun then 0x40#8 else 0#8) |||
    (if short then 0x20#8 else 0#8) ||| (if alert then 0x10#8 else 0#8)

/-- The flags byte of a frame (R171, R178). -/
def flagsByte (s : State) : Byte :=
  flagNibble s.link.fresh s.link.overrun s.link.short (alertWaiting s)

/-- The code of a link state (R178). -/
def linkStateCode (l : LinkState) : Byte :=
  match l with
  | .idle         => 0#8
  | .processing _ => 1#8
  | .ready _      => 2#8

/-- The link state byte (R165, R178). -/
def linkStateByte (s : State) : Byte := flagsByte s ||| linkStateCode s.link.state

end Sys2Proof.Machine
end

