-- ==== Sys2Proof/Machine/Arith.lean ====
section
/-!
DEFINITION. The Track Arithmetic Unit (chapter 5): ring reads, leg products, saturation, crossfade, destination samples.
All arithmetic is exact on integers; `/` on `Int` with a positive divisor is the floor.
-/
namespace Sys2Proof.Machine

/-- A list of ring samples without the zeros at its old end: the ring's one form (log 14). -/
def trimRing (xs : List Sample) : List Sample :=
  match xs with
  | [] => []
  | x :: rest =>
    match trimRing rest with
    | []     => if x = 0#24 then [] else [x]
    | y :: t => x :: y :: t

/-- A sample written to a ring, the newest replacing the oldest of 4096 (R98). -/
def writeRing (x : Sample) (ring : List Sample) : List Sample :=
  trimRing ((x :: ring).take Config.ringDepth)

/-- The ring sample at a delay: `d` samples older than the newest (R83); samples not listed are 0. -/
def readRing (ring : List Sample) (d : Nat) : Sample := ring.getD d 0#24

/-- What a leg reads at step 4 of tick T: the sample written at tick T − 1 − d, or 0 for SILENCE (R83, R2). -/
def legInput (sources : Vector Source 192) (leg : Leg) : Sample :=
  match leg.source with
  | .silence => 0#24
  | .track n => readRing sources[n].ring leg.delay.val

/-- Stage 1 before the range is applied: y = ⌊(x × m × 2^b + 16384) / 32768⌋ (R84). -/
def roundedQuotient (x m : Int) (b : Nat) : Int := (x * m * 2 ^ b + 16384) / 32768

/-- Does a quotient lie outside the 24-bit range? (R85) -/
def saturates (y : Int) : Bool := y < -8388608 || 8388607 < y

/-- A quotient brought into the 24-bit range (R85). -/
def saturate (y : Int) : Int := max (-8388608) (min y 8388607)

/-- The quotient of a leg at this tick (R84). -/
def legQuotient (sources : Vector Source 192) (leg : Leg) : Int :=
  roundedQuotient (legInput sources leg).toInt leg.mantissa.toInt leg.boost.val

/-- The leg product (R84, R85). -/
def legProduct (sources : Vector Source 192) (leg : Leg) : Int := saturate (legQuotient sources leg)

/-- The weight w = k × 32768 / R (R87). -/
def rampWeight (ramp : Ramp) : Nat := ramp.position * 32768 / ramp.length

/-- Stage 2: z = ⌊(y_cur × w + y_fade × (32768 − w) + 16384) / 32768⌋ (R88). -/
def blend (cur fade w : Int) : Int := (cur * w + fade * (32768 - w) + 16384) / 32768

/-- The running ramp of a record, if it has a fading leg (R17). -/
def rampOf (r : Record) : Option Ramp :=
  match r.phase with
  | .live           => none
  | .ramping ramp _ => some ramp
  | .retiring ramp  => some ramp

/-- z of a record (R86, R88). -/
def recordValue (sources : Vector Source 192) (r : Record) : Int :=
  match rampOf r with
  | none      => legProduct sources r.current
  | some ramp => blend (legProduct sources r.current) (legProduct sources ramp.fading) (rampWeight ramp)

/-- The destination sample of a record. -/
def recordSample (sources : Vector Source 192) (r : Record) : Sample := BitVec.ofInt 24 (recordValue sources r)

/-- Does a leg product of the record saturate at this tick? A queued next leg is not computed (R85, R86). -/
def recordSaturates (sources : Vector Source 192) (r : Record) : Bool :=
  saturates (legQuotient sources r.current) ||
    match rampOf r with
    | none      => false
    | some ramp => saturates (legQuotient sources ramp.fading)

/-- The destination sample of a destination: its record's, or 0 when unrouted (R89, R30). -/
def destSample (rt : RouteTable) (sources : Vector Source 192) (d : Fin 192) : Sample :=
  match rt.destMap[d] with
  | none   => 0#24
  | some i =>
    match rt.slots[i].record with
    | none   => 0#24
    | some r => recordSample sources r

/-- A slot's clip flag after step 4 (R19, R85). -/
def clipSlot (sources : Vector Source 192) (sl : RecordSlot) : RecordSlot :=
  { sl with record := sl.record.map fun r => { r with clip := r.clip || recordSaturates sources r } }

/-- Step 4 of a tick: destination samples, clip flags, destination meters (R28, R89). -/
def computeSamples (sources : Vector Source 192) (rt : RouteTable) : RouteTable :=
  { rt with
    slots       := bankMap (clipSlot sources) rt.slots
    destSamples := Vector.ofFn fun d => destSample rt sources d
    destMeters  := bankMapIdx (fun d m => meterTake m (destSample rt sources d)) rt.destMeters }

end Sys2Proof.Machine
end

