-- ==== Sys2Proof/Machine/SourceOps.lean ====
section
/-!
DEFINITION. The operations of the Source Monitor: arrivals (R96, R97), a source's work at a tick (R98 to R102), change flags
(R110), QUIET assessment (R94, R95), the making IDLE of a source (R106).
-/
namespace Sys2Proof.Machine

/-- The entry joins the end of the FIFO, or is discarded and counted at a full one (R96). -/
def joinFifo (src : Source) (e : Arrival) : Source :=
  if src.fifo.length < Config.fifoDepth then { src with fifo := src.fifo ++ [e] }
  else { src with overrun := satAdd src.overrun 1 }

/-- An arrival at a source (R97). -/
def arrive (src : Source) (e : Arrival) : Source :=
  match src.state with
  | .idle =>
    match e with
    | .sample _  => { joinFifo src e with state := .priming }
    | .closeMark => src
  | .priming | .running | .starved | .lost => joinFifo src e

/-- Several arrivals in order. -/
def arriveAll (src : Source) (es : List Arrival) : Source := es.foldl arrive src

/-- Does an edge selection name the entered edge? (R110) -/
def selectsEnter (e : EdgeSelect) : Bool :=
  match e with
  | .enter | .both => true
  | .leave => false

/-- Does an edge selection name the left edge? (R110) -/
def selectsLeave (e : EdgeSelect) : Bool :=
  match e with
  | .leave | .both => true
  | .enter => false

/-- An edge of a source: its change flag is set when the edge is selected and the change enable is on (R110). -/
def markEdge (selected : Bool) (src : Source) : Source :=
  { src with changeFlag := src.changeFlag || (selected && src.changeEnable) }

/-- The sample of a tick written to the ring and taken by the meter (R98, R90). -/
def writeSample (x : Sample) (src : Source) : Source :=
  { src with ring := writeRing x src.ring, meter := meterTake src.meter x }

/-- A source leaves RUNNING at a tick: quiet count 0 and QUIET clear, a QUIET-left edge if it was QUIET (R95, R110). -/
def leaveRunning (st : MonitorSettings) (src : Source) : Source :=
  let src' := if src.quiet then markEdge (selectsLeave st.quietEdges) src else src
  { src' with quiet := false, quietCount := 0 }

/-- A source leaves PRIMING, STARVED or LOST at a tick: the timer stops, and a LOST source makes a LOST-left edge
(R99, R102, R110). -/
def leaveWaiting (st : MonitorSettings) (src : Source) : Source :=
  let src' := if src.state = .lost then markEdge (selectsLeave st.lostEdges) src else src
  { src' with timer := none }

/-- The state of a source whose feed has ended: PRIMING when entries of a new feed remain, else IDLE (R99, R100). -/
def stateAfterClose (rest : List Arrival) : SourceState := if rest.isEmpty then .idle else .priming

/-- The loss timer loaded at the start of a starvation: stopped for a loss time of 0 (R102). -/
def loadTimer (st : MonitorSettings) : Option Nat :=
  if st.lossTime = 0 then none else some (st.lossTime * Config.ticksPerMs)

/-- What a source's work at a tick gives: the source, whether it became IDLE in it (R127), whether it became LOST (R70). -/
structure SourceWork where
  source      : Source
  becameIdle  : Bool
  enteredLost : Bool
  deriving DecidableEq, Repr

/-- A RUNNING source takes the entry at the head of its FIFO (R100). -/
def takeEntry (st : MonitorSettings) (src : Source) : SourceWork :=
  match src.fifo with
  | .sample x :: rest => ⟨writeSample x { src with fifo := rest, state := .running }, false, false⟩
  | .closeMark :: rest =>
    ⟨writeSample 0#24 { leaveRunning st src with fifo := rest, state := stateAfterClose rest }, true, false⟩
  | [] =>
    ⟨writeSample 0#24
      { leaveRunning st src with state := .starved, underrun := satAdd src.underrun 1, timer := loadTimer st }, false, false⟩

/-- The entries behind the oldest close mark. -/
def afterCloseMark (es : List Arrival) : List Arrival :=
  match es with
  | []                 => []
  | .closeMark :: rest => rest
  | .sample _ :: rest  => afterCloseMark rest

/-- A STARVED source's own work at a tick (R101). -/
def starve (st : MonitorSettings) (src : Source) : SourceWork :=
  let src' := { src with underrun := satAdd src.underrun 1 }
  match src.timer with
  | none => ⟨writeSample 0#24 src', false, false⟩
  | some n =>
    if n ≤ 1 then
      ⟨writeSample 0#24 { markEdge (selectsEnter st.lostEdges) src' with state := .lost, timer := none }, false, true⟩
    else ⟨writeSample 0#24 { src' with timer := some (n - 1) }, false, false⟩

/-- Is the source waiting for entries: PRIMING, STARVED or LOST? (R99) -/
def isWaiting (src : Source) : Bool :=
  match src.state with
  | .priming | .starved | .lost => true
  | .idle | .running => false

/-- Does the FIFO hold a close mark? -/
def holdsClose (src : Source) : Bool := src.fifo.contains .closeMark

/-- Does the FIFO hold the 8 entries of priming? (R99) -/
def isPrimed (src : Source) : Bool := Config.primeCount ≤ src.fifo.length

/-- A source's own work at a tick when it neither runs nor leaves its state by R99. -/
def waitWork (st : MonitorSettings) (src : Source) : SourceWork :=
  match src.state with
  | .starved => starve st src
  | .idle | .priming | .running | .lost => ⟨writeSample 0#24 src, false, false⟩

/-- A source's work at a sample tick (R98 to R102). -/
def sourceWork (st : MonitorSettings) (src : Source) : SourceWork :=
  if src.state = .running then takeEntry st src
  else if isWaiting src then
    if isPrimed src then takeEntry st { leaveWaiting st src with state := .running }
    else if holdsClose src then
      ⟨writeSample 0#24
        { leaveWaiting st src with fifo := afterCloseMark src.fifo, state := stateAfterClose (afterCloseMark src.fifo) },
        true, false⟩
    else waitWork st src
  else waitWork st src

/-- A source made IDLE by RESTART_LANE or by a port disable (R106). -/
def makeIdle (src : Source) : Source :=
  { src with fifo := [], timer := none, quietCount := 0, quiet := false, state := .idle }

/-- The QUIET assessment of a source by its level code (R94); the flag says whether it enters QUIET. -/
def assessQuiet (st : MonitorSettings) (src : Source) : Source × Bool :=
  if src.state = .running then
    if st.quietLevel ≤ src.meter.level then
      let count := min (src.quietCount + 1) 255
      let src' := { src with quietCount := count }
      if st.quietFrames ≤ count ∧ src.quiet = false then
        (markEdge (selectsEnter st.quietEdges) { src' with quiet := true }, true)
      else (src', false)
    else
      let src' := if src.quiet then markEdge (selectsLeave st.quietEdges) src else src
      ({ src' with quietCount := 0, quiet := false }, false)
  else (src, false)

/-- A source at a pulse that closes a non-empty window: its meter latches, then it is assessed (R91, R94). -/
def sourceFrame (st : MonitorSettings) (src : Source) : Source × Bool :=
  assessQuiet st { src with meter := meterLatch src.meter }

end Sys2Proof.Machine
end

