-- ==== Sys2Proof/Machine/LaneOps.lean ====
section
/-!
DEFINITION. Lane reception (chapter 7): the check word, the parser, packet classes, sequence checking, pushes, presence and the
settings coming into force.
-/
namespace Sys2Proof.Machine

/-! ## The check word (R121) -/

/-- One bit fed into the check register (R121). -/
def crcBit (reg : Word) (bit : Bool) : Word :=
  if reg.msb = bit then reg <<< 1 else (reg <<< 1) ^^^ 0x1021#16

/-- One word fed into the check register, most significant bit first (R121). -/
def crcWord (reg w : Word) : Word :=
  (List.range 16).foldl (fun r i => crcBit r (w.getLsbD (15 - i))) reg

/-- The check value of marker, length word and payload (R121). -/
def checkValue (words : List Word) : Word := words.foldl crcWord 0xFFFF#16

/-! ## Word layouts (R177) -/

/-- Owner code of a marker. -/
def markerOwner (w : Word) : Nat := (hiByte w).toNat

/-- Kind of a marker, bits 7 to 3. -/
def markerKind (w : Word) : Nat := (w.extractLsb' 3 5).toNat

/-- Bundle of a marker, bits 2 to 0. -/
def markerBundle (w : Word) : Fin 8 := (w.extractLsb' 0 3).toFin

/-- The sample frames of words, three a frame: 24 bits of A then 24 bits of B (R177). -/
def framesOfWords (ws : List Word) : List Frame :=
  match ws with
  | w1 :: w2 :: w3 :: rest => ⟨w1 ++ hiByte w2, loByte w2 ++ w3⟩ :: framesOfWords rest
  | _ => []

/-- The three words of a sample frame (R177). -/
def frameWords (f : Frame) : List Word :=
  [f.a.extractLsb' 8 16, wordOf (f.a.extractLsb' 0 8) (f.b.extractLsb' 16 8), f.b.extractLsb' 0 16]

/-! ## The parser (R122, R123) -/

/-- The parser from HUNT: the complete packets of the words, each whole from marker to check word, and whether a TRUNCATED
packet ended the line. The fuel bounds the words taken. -/
def huntPackets (fuel : Nat) (ws : List Word) : List (List Word) × Bool :=
  match fuel, ws with
  | 0, _ => ([], false)
  | _ + 1, [] => ([], false)
  | fuel + 1, m :: rest =>
    if m = 0#16 then huntPackets fuel rest
    else
      match rest with
      | [] => ([], true)
      | len :: body =>
        if body.length < len.toNat + 1 then ([], true)
        else
          let tail := huntPackets fuel (body.drop (len.toNat + 1))
          ((m :: len :: body.take (len.toNat + 1)) :: tail.1, tail.2)

/-- A line parsed from HUNT at word 0 (R122). -/
def parseLine (ws : List Word) : List (List Word) × Bool := huntPackets ws.length ws

/-! ## Packet classes (R119, R120, R124) -/

/-- What a good own packet carries (R120). -/
inductive Content where
  | samples (frames : List Frame)
  | silent (n : Nat)
  | close
  deriving DecidableEq, Repr

/-- The class of a complete packet (R124). -/
inductive PacketClass where
  | foreign
  | checkError
  | malformed
  | good (bundle : Fin 8) (seq : Byte) (content : Content)
  deriving DecidableEq, Repr

/-- The content of a payload whose kind, n and length the table of R120 allows. -/
def contentOf (kind : Nat) (payload : List Word) : Option (Byte × Content) :=
  match payload with
  | [] => none
  | header :: rest =>
    let n := (loByte header).toNat
    if kind = 1 ∧ 1 ≤ n ∧ n ≤ 4 ∧ rest.length = 3 * n then some (hiByte header, .samples (framesOfWords rest))
    else if kind = 2 ∧ 1 ≤ n ∧ n ≤ 4 ∧ rest.length = 0 then some (hiByte header, .silent n)
    else if kind = 3 ∧ n = 0 ∧ rest.length = 0 then some (hiByte header, .close)
    else none

/-- The class of a complete packet: foreign by its owner code, then the check word, then MALFORMED (R124). -/
def classify (packet : List Word) : PacketClass :=
  match packet with
  | [] => .foreign
  | marker :: _ =>
    if markerOwner marker ≠ Config.ownerCode then .foreign
    else if packet.getLast? ≠ some (checkValue packet.dropLast) then .checkError
    else
      match contentOf (markerKind marker) (packet.dropLast.drop 2) with
      | none => .malformed
      | some (seq, content) => .good (markerBundle marker) seq content

/-! ## Sequence checking and pushes (R126, R128) -/

/-- A sequence count judged against the reference, which it then becomes (R126). -/
def seqCheck (b : InBundle) (c : Byte) : InBundle where
  seqRef := some c
  gap :=
    match b.seqRef with
    | none   => b.gap
    | some r => if c = r + 1#8 then b.gap else satAdd b.gap 1

/-- The arrivals a packet makes at its source A (R128). -/
def arrivalsA (c : Content) : List Arrival :=
  match c with
  | .samples frames => frames.map fun f => .sample f.a
  | .silent n       => List.replicate n (.sample 0#24)
  | .close          => [.closeMark]

/-- The arrivals a packet makes at its source B (R128). -/
def arrivalsB (c : Content) : List Arrival :=
  match c with
  | .samples frames => frames.map fun f => .sample f.b
  | .silent n       => List.replicate n (.sample 0#24)
  | .close          => [.closeMark]

/-- Track A of a bundle of a lane: lane × 16 + bundle × 2 (R1, R3). -/
def trackA (n j : Fin 8) : Fin 192 := ⟨n.val * 16 + j.val * 2, by omega⟩

/-- Track B of a bundle of a lane (R1, R3). -/
def trackB (n j : Fin 8) : Fin 192 := ⟨n.val * 16 + j.val * 2 + 1, by omega⟩

/-- The pushes of a good own packet (R128). -/
def pushPacket (sources : Vector Source 192) (n j : Fin 8) (c : Content) : Vector Source 192 :=
  bankModify (bankModify sources (trackA n j) fun src => arriveAll src (arrivalsA c)) (trackB n j) fun src =>
    arriveAll src (arrivalsB c)

/-- An entry of the received packet list (R125). -/
structure Received where
  words  : List Word
  bundle : Option (Fin 8)
  deriving DecidableEq, Repr

/-- The receive side in the middle of a line: the lane, the sources, the received packet list so far. -/
structure Reception where
  lane    : Lane
  sources : Vector Source 192
  list    : List Received

/-- One complete packet taken (R124). -/
def receivePacket (n : Fin 8) (w : Reception) (packet : List Word) : Reception :=
  match classify packet with
  | .foreign    => { w with list := w.list ++ [⟨packet, none⟩] }
  | .checkError => { w with lane := { w.lane with checkError := satAdd w.lane.checkError 1 } }
  | .malformed  => { w with lane := { w.lane with malformed := satAdd w.lane.malformed 1 } }
  | .good j seq content =>
    { lane    := { w.lane with inBundles := bankModify w.lane.inBundles j fun b => seqCheck b seq }
      sources := pushPacket w.sources n j content
      list    := w.list ++ [⟨packet, some j⟩] }

/-- The words of a line parsed and taken: words beyond the 64th are counted and ignored (R115), the packets are taken in line
order, and a TRUNCATED packet is counted (R116 part 4, R123). -/
def receiveLine (n : Fin 8) (lane : Lane) (sources : Vector Source 192) (words : List Word) : Reception :=
  let lane1 := { lane with excess := satAdd lane.excess (words.length - Config.blankingWords) }
  let parsed := parseLine (words.take Config.blankingWords)
  let w := parsed.1.foldl (receivePacket n) ⟨lane1, sources, []⟩
  { w with lane := { w.lane with truncated := satAdd w.lane.truncated (if parsed.2 then 1 else 0) } }

/-! ## Settings and presence (R131, R148, R117) -/

/-- A pending SET_LANE comes into force; a change of arbiter mode or lowest bundle sets the pointer (R131, R148). -/
def bringSettings (lane : Lane) : Lane :=
  match lane.pendingSettings with
  | none => lane
  | some st =>
    { lane with
      settings        := st
      pendingSettings := none
      pointer         :=
        if st.mode = lane.settings.mode ∧ st.lowest = lane.settings.lowest then lane.pointer else st.lowest }

/-- Is the lane ABSENT? -/
def isAbsent (lane : Lane) : Bool :=
  match lane.presence with
  | .absent => true
  | .present _ => false

/-- A line event makes the lane PRESENT with its count at 0; from ABSENT that is a change (R117, R118). -/
def becomePresent (lane : Lane) : Lane :=
  { lane with presence := .present 0, changeFlag := lane.changeFlag || isAbsent lane }

/-- Presence at a tick: the 240th tick makes a PRESENT lane ABSENT, which is a change (R117, R118). -/
def presenceTick (lane : Lane) : Lane :=
  match lane.presence with
  | .absent => lane
  | .present count =>
    if Config.absenceTicks ≤ count + 1 then { lane with presence := .absent, changeFlag := true }
    else { lane with presence := .present (count + 1) }

/-- The receive side of a lane restarted (R132). -/
def restartReceive (lane : Lane) : Lane :=
  { lane with
    excess := 0, truncated := 0, checkError := 0, malformed := 0
    inBundles := bankMap (fun _ => ⟨none, 0⟩) lane.inBundles }

end Sys2Proof.Machine
end

