-- ==== Sys2Proof/Machine/EmbedOps.lean ====
section
/-!
DEFINITION. Embedding and slot arbitration (chapter 8): bundle activity, the embed push, kept packets, the slot arbiter and the
output line; and the desk ports (R104, R152, R185).
-/
namespace Sys2Proof.Machine

/-! ## Activity and the embed push (R135, R136) -/

/-- Does the map name a record for either track of the bundle? (R135) -/
def isRouted (destMap : Vector (Option (Fin 160)) 192) (n j : Fin 8) : Bool :=
  destMap[trackA n j].isSome || destMap[trackB n j].isSome

/-- The activity judged at a tick (R135). -/
def judgeActivity (a : Activity) (routed : Bool) : Activity :=
  if routed then .active
  else
    match a with
    | .inactive => .inactive
    | .active   => .closing
    | .closing  => .closing

/-- A frame pushed into an embed FIFO, or counted as an overflow at a full one (R136). -/
def pushFrame (b : OutBundle) (f : Frame) : OutBundle :=
  if b.fifo.length < Config.fifoDepth then { b with fifo := b.fifo ++ [f] }
  else { b with overflow := satAdd b.overflow 1 }

/-- An output bundle at a tick: judged, then pushed when ACTIVE (R135, R136). -/
def bundleTick (routed : Bool) (f : Frame) (b : OutBundle) : OutBundle :=
  let b' := { b with activity := judgeActivity b.activity routed }
  if b'.activity = .active then pushFrame b' f else b'

/-- A lane at a tick; `rt` is the Route Table as the previous tick left it (R135, R136, R117). -/
def laneTick (rt : RouteTable) (n : Fin 8) (lane : Lane) : Lane :=
  { presenceTick lane with
    outBundles :=
      bankMapIdx
        (fun j b => bundleTick (isRouted rt.destMap n j) ⟨rt.destSamples[trackA n j], rt.destSamples[trackB n j]⟩ b)
        lane.outBundles }

/-- A bundle's activity judged anew at a restart (R149). -/
def restartBundle (routed : Bool) (_ : OutBundle) : OutBundle :=
  ⟨if routed then .active else .inactive, [], 0#8, 0⟩

/-- The transmit side of a lane restarted (R149). -/
def restartTransmit (rt : RouteTable) (n : Fin 8) (lane : Lane) : Lane :=
  { lane with
    outBundles := bankMapIdx (fun j b => restartBundle (isRouted rt.destMap n j) b) lane.outBundles
    pointer    := lane.settings.lowest }

/-! ## Kept packets (R140) -/

/-- Is a received packet kept? Foreign, or own of a bundle in the keep mask whose output bundle is INACTIVE (R140). -/
def isKept (lane : Lane) (r : Received) : Bool :=
  match r.bundle with
  | none   => true
  | some j => lane.settings.keepMask.getLsbD j.val && lane.outBundles[j].activity == .inactive

/-- The kept packets, in list order (R139, R140). -/
def keptPackets (lane : Lane) (list : List Received) : List (List Word) :=
  (list.filter (isKept lane)).map (·.words)

/-! ## Packets the arbiter makes (R143, R144) -/

/-- The kinds of own packets (R120). -/
inductive PacketKind where
  | sample
  | silent
  | close
  deriving DecidableEq, Repr

/-- The kind value (R120, R177). -/
def kindValue (k : PacketKind) : Nat :=
  match k with
  | .sample => 1
  | .silent => 2
  | .close  => 3

/-- The marker of an own packet (R177). -/
def ownMarker (k : PacketKind) (j : Fin 8) : Word :=
  wordOf (BitVec.ofNat 8 Config.ownerCode) (BitVec.ofNat 8 (kindValue k * 8 + j.val))

/-- An own packet: marker, length word, header word, frames, check word (R144). -/
def ownPacket (k : PacketKind) (j : Fin 8) (seq : Byte) (n : Nat) (frames : List Frame) : List Word :=
  let payload := wordOf seq (BitVec.ofNat 8 n) :: frames.flatMap frameWords
  let body := ownMarker k j :: BitVec.ofNat 16 payload.length :: payload
  body ++ [checkValue body]

/-- Are all samples of the frames 0? (R143) -/
def allSilent (frames : List Frame) : Bool := frames.all fun f => f.a == 0#24 && f.b == 0#24

/-- The packet of frames at the head of a FIFO: SILENT when they are all 0, else SAMPLE (R143, R144). -/
def framePacket (j : Fin 8) (seq : Byte) (frames : List Frame) : List Word :=
  if allSilent frames then ownPacket .silent j seq frames.length []
  else ownPacket .sample j seq frames.length frames

/-- Words of that packet: 4, or 4 + 3n (R143). -/
def framePacketWords (frames : List Frame) : Nat :=
  if allSilent frames then 4 else 4 + 3 * frames.length

/-- The largest n from 4 downward whose packet fits the free words; none when n = 1 does not fit (R143). -/
def offerSize (fifo : List Frame) (free : Nat) : Option Nat :=
  [4, 3, 2, 1].find? fun n => n ≤ fifo.length && framePacketWords (fifo.take n) ≤ free

/-! ## The slot arbiter (R141 to R147) -/

/-- The arbiter in the middle of a line. -/
structure Arbiter where
  bundles : Vector OutBundle 8
  packets : List (List Word)
  free    : Nat
  granted : Nat
  last    : Option (Fin 8)
  /-- A requesting bundle could be offered nothing (R146). -/
  ended   : Bool

/-- A packet granted to a bundle: placed in the line, its size taken from the free words (R144). -/
def grantPacket (w : Arbiter) (j : Fin 8) (packet : List Word) (b : OutBundle) : Arbiter :=
  { w with
    bundles := bankSet w.bundles j { b with seq := b.seq + 1#8 }
    packets := w.packets ++ [packet]
    free    := w.free - packet.length
    granted := w.granted + 1
    last    := some j }

/-- The CLOSE packet of a bundle granted: it becomes INACTIVE (R138, R144, R145). -/
def grantClose (w : Arbiter) (j : Fin 8) : Arbiter :=
  grantPacket w j (ownPacket .close j w.bundles[j].seq 0 []) { w.bundles[j] with activity := .inactive }

/-- A sample packet of n frames granted: the frames leave the FIFO (R144, R145). -/
def grantFrames (w : Arbiter) (j : Fin 8) (n : Nat) : Arbiter :=
  grantPacket w j (framePacket j w.bundles[j].seq (w.bundles[j].fifo.take n))
    { w.bundles[j] with fifo := w.bundles[j].fifo.drop n }

/-- Does the bundle request its CLOSE packet? (R138, R141) -/
def requestsClose (b : OutBundle) : Bool := b.fifo.isEmpty && b.activity == .closing

/-- The visit of one bundle (R142, R143, R146). -/
def visitBundle (budget : Nat) (w : Arbiter) (j : Fin 8) : Arbiter :=
  if w.ended || budget ≤ w.granted then w
  else if requestsClose w.bundles[j] then
    if 4 ≤ w.free then grantClose w j else { w with ended := true }
  else if w.bundles[j].fifo.isEmpty then w
  else
    match offerSize w.bundles[j].fifo w.free with
    | some n => grantFrames w j n
    | none   => { w with ended := true }

/-- The grant order from a pointer: the bundle after it first, the pointer's last (R142). -/
def grantOrder (pointer : Fin 8) : List (Fin 8) :=
  [pointer + 1, pointer + 2, pointer + 3, pointer + 4, pointer + 5, pointer + 6, pointer + 7, pointer]

/-- Words in packets. -/
def packetWords (packets : List (List Word)) : Nat := (packets.map List.length).sum

/-- The arbitration of a line over the words the kept packets leave free (R142, R146). -/
def arbitrate (lane : Lane) (kept : List (List Word)) : Arbiter :=
  (grantOrder lane.pointer).foldl (visitBundle lane.settings.budget)
    ⟨lane.outBundles, [], Config.blankingWords - packetWords kept, 0, none, false⟩

/-- The priority pointer after a line (R147). -/
def nextPointer (lane : Lane) (last : Option (Fin 8)) : Fin 8 :=
  match lane.settings.mode with
  | .fixed  => lane.settings.lowest
  | .rotate => last.getD lane.pointer

/-- The turns of an order that come after a bundle's, all of them when no bundle is named (R142). -/
def turnsAfter (order : List (Fin 8)) (last : Option (Fin 8)) : List (Fin 8) :=
  match last with
  | none   => order
  | some j => (order.dropWhile (· ≠ j)).drop 1

/-- The turns a line has left after its last grant: none when the arbitration ended at the budget or at a bundle that could be
offered nothing (R146). -/
def turnsLeft (lane : Lane) (w : Arbiter) : List (Fin 8) :=
  if w.ended || lane.settings.budget ≤ w.granted then [] else turnsAfter (grantOrder lane.pointer) w.last

/-- The output line rebuilt (R139): kept packets, then granted ones. -/
def transmitLine (lane : Lane) (line : Nat) (list : List Received) : Lane :=
  let kept := keptPackets lane list
  let w := arbitrate lane kept
  { lane with
    outBundles := w.bundles
    pointer    := nextPointer lane w.last
    outLine    := some ⟨line, kept ++ w.packets, w.granted, turnsLeft lane w⟩ }

/-- The 64 words of an output line: its packets back to back, then idle words (R139). -/
def lineWords (l : OutLine) : List Word :=
  l.packets.flatten ++ List.replicate (Config.blankingWords - l.packets.flatten.length) 0#16

/-- Can a line grant a bundle its CLOSE? Its turn has not passed, so it got no packet in the line and the arbitration has not ended
(R138, R142, R146), and the line has a grant of the budget and four words left (R143, R146). The budget is the one now in force, also
when SET_LANE_IN_FORCE commanded alone has changed it since the line was handed out: the model's choice (log 16). -/
def takesClose (lane : Lane) (l : OutLine) (j : Fin 8) : Bool :=
  requestsClose lane.outBundles[j] && l.turns.contains j && decide (l.granted < lane.settings.budget) &&
    decide (packetWords l.packets + 4 ≤ Config.blankingWords)

/-- The turn of one CLOSING, drained bundle in the lane's output line: its CLOSE packet is placed after the line's packets, and
the pointer follows the grant by the mode and the lowest bundle now in force, the model's choice (R138, R144, R147; log 16). -/
def closeTurn (lane : Lane) (j : Fin 8) : Lane :=
  match lane.outLine with
  | none => lane
  | some l =>
    if takesClose lane l j then
      let w := grantClose ⟨lane.outBundles, l.packets, Config.blankingWords - packetWords l.packets, l.granted, none, false⟩ j
      { lane with
        outBundles := w.bundles
        pointer    := nextPointer lane w.last
        outLine    := some ⟨l.number, w.packets, w.granted, turnsAfter l.turns w.last⟩ }
    else lane

/-! ## Desk ports -/

/-- The frame a desk input port pushes at a tick: the one it shifted in, or the one it holds (R104, R185). -/
def pushedFrame (port : DeskIn) (arrived : List Sample) : Option (List Sample) :=
  match port.shift with
  | .nothing    => none
  | .shifting   => some arrived
  | .held frame => some frame

/-- An enabled input port begins to shift in the next frame at a tick (R104). -/
def beginInFrame (port : DeskIn) : DeskIn :=
  { port with shift := if port.enabled then .shifting else .nothing }

/-- The desk destination of a slot of an output port: 128 + port × 16 + slot (R3, R152). -/
def deskTrack (p : Fin 4) (k : Fin 16) : Fin 192 := ⟨128 + p.val * 16 + k.val, by omega⟩

/-- An output port begins a frame with the destination samples of the previous tick; a disabled one with zeros (R152). -/
def beginOutFrame (samples : Vector Sample 192) (p : Fin 4) (port : DeskOut) : DeskOut :=
  { port with frame := Vector.ofFn fun k => if port.enabled then samples[deskTrack p k] else 0#24 }

/-- The desk ports at a tick: all begin a frame (R152, R184). -/
def deskTick (samples : Vector Sample 192) (d : Desk) : Desk where
  clock   := true
  framing := true
  ins     := bankMap beginInFrame d.ins
  outs    := bankMapIdx (beginOutFrame samples) d.outs

/-- The desk port of a desk source, none for a lane source (R1). -/
def deskPortOf (i : Fin 192) : Option (Fin 4) :=
  if _h : 128 ≤ i.val then some ⟨(i.val - 128) / 16, by omega⟩ else none

/-- The pushes of the input ports that are taken on one side of the Source Monitor's work (R104). -/
def pushDesk (d : Desk) (arrived : List DeskArrival) (first : Bool) (sources : Vector Source 192) : Vector Source 192 :=
  bankMapIdx
    (fun i src =>
      match deskPortOf i with
      | none => src
      | some p =>
        match arrived[p.val]? with
        | none => src
        | some a =>
          if a.pushFirst = first then
            match pushedFrame d.ins[p] a.frame with
            | none       => src
            | some frame => arrive src (.sample (frame.getD ((i.val - 128) % 16) 0#24))
          else src)
    sources

/-- WCLK has stopped and the frames in progress are complete: an input port holds its frame, an output port drives 0, and no
frame sync follows until the next tick (R152, R185). -/
def completeDeskFrames (frames : List (List Sample)) (d : Desk) : Desk :=
  if d.framing then
    { d with
      framing := false
      ins := bankMapIdx
        (fun p port =>
          match port.shift with
          | .shifting => { port with shift := .held (frames.getD p.val []) }
          | .nothing | .held _ => port) d.ins
      outs := bankMap (fun port => { port with frame := Vector.replicate 16 0#24 }) d.outs }
  else d

end Sys2Proof.Machine
end

