-- ==== Sys2Proof/Machine/LinkOps.lean ====
section
/-!
DEFINITION. The SPI transactions of the Control Link (chapter 10): a REQUEST stored and judged (R167, R168), a FETCH with its frame
(R170 to R172), a void transaction (R165), and a transaction that is not taken (R175).
-/
namespace Sys2Proof.Machine

/-- A response made: it is placed in the buffer and the link becomes RESPONSE_READY (R166, R169). -/
def respond (t : State) (r : Response) : State :=
  { t with link := { t.link with state := .ready r } }

/-- The response with status OK. -/
def okWith (payload : List Byte) : Response := ⟨.ok, payload⟩

/-- A response of a status alone: no payload (R179). -/
def statusOnly (st : Status) : Response := ⟨st, []⟩

/-- Status codes (R180). -/
def statusCode (s : Status) : Byte :=
  match s with
  | .ok          => 0x00#8
  | .none        => 0x01#8
  | .range       => 0x02#8
  | .stale       => 0x03#8
  | .alreadyOpen => 0x04#8
  | .noSlot      => 0x05#8
  | .notOpen     => 0x06#8
  | .batchFull   => 0x07#8
  | .duplicate   => 0x08#8
  | .empty       => 0x09#8
  | .notDone     => 0x0A#8
  | .badState    => 0x0B#8
  | .tooLate     => 0x0C#8
  | .badCommand  => 0x0D#8
  | .badLength   => 0x0E#8
  | .nothing     => 0x0F#8

/-- A transaction of `n` whole bytes whose CS_N was low at the release of RESET_N is not taken; what MISO carried is free
(R175; log 8). -/
def untakenTransaction (n : Nat) (s : State) : State :=
  { s with
    freeCount := s.freeCount + 1
    link := { s.link with csHeld := false, miso := (List.range n).map (Config.untakenMiso s.freeCount) } }

/-- A transaction of `n` whole bytes: taken, or not taken as the first one after a release with CS_N low (R175). -/
def transaction (n : Nat) (s : State) (work : State → State) : State :=
  if s.link.csHeld then untakenTransaction n s else work s

/-! ## REQUEST (R167, R168) -/

/-- The bytes of a REQUEST that the request slot stores: command code, length byte L, payload bytes up to the L-th; of a length
over 250, no payload byte (R167). -/
def storeRequest (bytes : List Byte) : List Byte :=
  match bytes with
  | code :: length :: p => code :: length :: (if length.toNat ≤ Config.linkPayload then p.take length.toNat else [])
  | [code] => [code]
  | [] => []

/-- The request slot at the rise of CS_N: the bytes of a transaction begun while the link was IDLE, else nothing new (R167). -/
def slotAtRise (l : Link) (bytes : List Byte) : List Byte :=
  match l.state with
  | .idle => storeRequest bytes
  | .processing _ | .ready _ => l.slot

/-- Check 2: the code or the length byte has not arrived, or fewer than L payload bytes have (R167). -/
def isShort (slot : List Byte) : Bool :=
  match slot with
  | _ :: length :: p => length.toNat ≤ Config.linkPayload && p.length < length.toNat
  | _ => true

/-- The link state an accepted request gives: handed over, or answered by the link itself (R168). -/
def accept (slot : List Byte) : LinkState :=
  match slot with
  | code :: length :: p =>
    match decodeRequest code length p with
    | .command i  => .processing i
    | .badCommand => .ready ⟨.badCommand, []⟩
    | .badLength  => .ready ⟨.badLength, []⟩
  | _ => .idle

/-- The judgement at the rise of CS_N of a request whose bytes stand in the slot, which is then emptied (R167). -/
def judgeRequest (l : Link) : Link :=
  match l.state with
  | .processing _ | .ready _ => { l with overrun := true, slot := [] }
  | .idle =>
    if isShort l.slot then { l with short := true, slot := [] }
    else { l with state := accept l.slot, slot := [] }

/-- A REQUEST transaction; MISO carries the link state byte and then 0x00 (R165, R167). -/
def requestTransaction (bytes : List Byte) (s : State) : State :=
  transaction (bytes.length + 1) s fun s =>
    { s with
      link :=
        judgeRequest
          { s.link with
            slot := slotAtRise s.link bytes
            miso := linkStateByte s :: List.replicate bytes.length 0#8 } }

/-! ## FETCH (R170 to R172) -/

/-- The response a FETCH sends: the one in the buffer, or NOTHING (R170). -/
def fetchedResponse (l : Link) : Response :=
  match l.state with
  | .ready r => r
  | .idle | .processing _ => ⟨.nothing, []⟩

/-- A response frame: status code, flags byte, length, payload (R170, R178). -/
def frameBytes (flags : Byte) (r : Response) : List Byte :=
  [statusCode r.status, flags, BitVec.ofNat 8 r.payload.length] ++ r.payload

/-- The bytes of a FETCH on MISO after the link state byte: the frame, then 0x00 (R170). -/
def fetchBytes (s : State) (clocked : Nat) : List Byte :=
  let frame := frameBytes (flagsByte s) (fetchedResponse s.link)
  frame.take clocked ++ List.replicate (clocked - frame.length) 0#8

/-- Is a fetch of so many bytes complete? (R170) -/
def fetchComplete (l : Link) (clocked : Nat) : Bool := 3 + (fetchedResponse l).payload.length ≤ clocked

/-- The link after a complete fetch: a response sent leaves the buffer, and the flags the frame reported are cleared; it reported
every flag then set (R170, R172). -/
def endFetch (l : Link) : Link :=
  { l with
    state :=
      match l.state with
      | .ready _ => .idle
      | .idle => .idle
      | .processing i => .processing i
    overrun := false
    short   := false }

/-- A FETCH transaction with so many bytes clocked after the lead byte (R170 to R172). -/
def fetchTransaction (clocked : Nat) (s : State) : State :=
  transaction (clocked + 1) s fun s =>
    let l := { s.link with miso := linkStateByte s :: fetchBytes s clocked }
    { s with link := if fetchComplete s.link clocked then endFetch l else l }

/-! ## Void transactions (R165) -/

/-- What MISO carries in a void transaction: the link state byte while a lead byte is clocked, then 0x00. -/
def voidBytes (s : State) (bytes : List Byte) : List Byte :=
  match bytes with
  | [] => []
  | _ :: rest => linkStateByte s :: List.replicate rest.length 0#8

/-- A void transaction changes no state; MISO is an output (R165). -/
def voidTransaction (bytes : List Byte) (s : State) : State :=
  transaction bytes.length s fun s => { s with link := { s.link with miso := voidBytes s bytes } }

/-! ## Handing over (R168, R169) -/

/-- The state in which a block is to take the request `i`: it has been handed over; if not, the request is first sent in a REQUEST
transaction of its own, which the link judges as any other (R167, R168; log 4). -/
def handOver (i : Instr) (s : State) : State :=
  if s.link.state = .processing i then s
  else
    match encodeRequest i with
    | some (code, p) => requestTransaction (requestBytes code p) s
    | none => s

end Sys2Proof.Machine
end

