-- ==== Sys2Proof/Machine/RouteOps.lean ====
section
/-!
DEFINITION. The operations of the Route Table: handles (R21, R22), leg changes and ramps (R25, R64 to R69), the apply of
batches (R49 to R56), CLEAR_ALL (R61, R62), failover (R70 to R79), and the five steps of a tick (R28).
-/
namespace Sys2Proof.Machine

/-! ## Handles, ports, slots -/

/-- The handle of a slot at a generation: generation × 256 + slot (R21). -/
def makeHandle (gen : Byte) (slot : Fin 160) : Handle := wordOf gen (BitVec.ofNat 8 slot.val)

/-- The generation that follows: one more, and 1 after 255 (R23). -/
def nextGen (g : Byte) : Byte := if g = 255#8 then 1#8 else g + 1#8

/-- What a handle names (R22). -/
inductive HandleCheck where
  | range
  | stale
  | valid (slot : Fin 160) (record : Record)
  deriving DecidableEq, Repr

/-- The check of a handle against the table (R22). -/
def checkHandle (rt : RouteTable) (h : Handle) : HandleCheck :=
  match toIndex 160 (loByte h).toNat with
  | none   => .range
  | some i =>
    match rt.slots[i].record with
    | none   => .stale
    | some r => if rt.slots[i].gen = hiByte h then .valid i r else .stale

/-- The destination port of a destination: d ÷ 16, which is the lane for 0 to 127 and 8 + DO for 128 to 191 (R3). -/
def portOf (d : Fin 192) : Fin 12 := ⟨d.val / 16, by omega⟩

/-- Does the destination lie in a guarded port? (R31, R32) -/
def isGuarded (rt : RouteTable) (d : Fin 192) : Bool := rt.guards.getLsbD (portOf d).val

/-- The lowest-numbered FREE slot (R24). -/
def lowestFree (rt : RouteTable) : Option (Fin 160) :=
  (bankIndices 160).find? fun i => rt.slots[i].record.isNone

/-- The number of FREE slots (R16). -/
def freeSlotCount (rt : RouteTable) : Nat := (bankIndices 160).countP fun i => rt.slots[i].record.isNone

/-- The record in a slot replaced. -/
def setRecord (rt : RouteTable) (i : Fin 160) (r : Record) : RouteTable :=
  { rt with slots := bankModify rt.slots i fun sl => { sl with record := some r } }

/-- The record in a slot becomes FREE: fields dropped, map entry cleared, generation advanced (R26, R23). -/
def freeRecord (rt : RouteTable) (i : Fin 160) (d : Fin 192) : RouteTable :=
  { rt with
    slots   := bankModify rt.slots i fun sl => ⟨nextGen sl.gen, none⟩
    destMap := bankSet rt.destMap d none }

/-- The outcome of a leg change or a ramp step put into the table: a record, or none when it became FREE. -/
def putRecord (rt : RouteTable) (i : Fin 160) (d : Fin 192) (o : Option Record) : RouteTable :=
  match o with
  | some r => setRecord rt i r
  | none   => freeRecord rt i d

/-! ## Legs and ramps -/

/-- The ramp length R of a ramp code (R64). -/
def rampLength (c : Fin 8) : Nat := if c.val = 0 then 0 else 2 ^ (c.val + 4)

/-- The latest leg: the next leg if there is one, else the current leg (R17). -/
def latestLeg (r : Record) : Leg :=
  match r.phase with
  | .ramping _ (some n) => n
  | .ramping _ none     => r.current
  | .live               => r.current
  | .retiring _         => r.current

/-- The bringing in of a leg on a LIVE record; none when it frees the record (R65). -/
def bringInLive (r : Record) (leg : Leg) : Option Record :=
  if leg.code.val = 0 then
    if leg.retire then none else some { r with current := leg, phase := .live }
  else
    let ramp : Ramp := ⟨r.current, rampLength leg.code, 0⟩
    some { r with current := leg, phase := if leg.retire then .retiring ramp else .ramping ramp none }

/-- A leg change (R25): at once on a LIVE record (R65), queued on a RAMPING one (R66), none on a RETIRING one (R66). -/
def bringIn (r : Record) (leg : Leg) : Option Record :=
  match r.phase with
  | .live           => bringInLive r leg
  | .ramping ramp _ => some { r with phase := .ramping ramp (some leg) }
  | .retiring _     => some r

/-- The end of a record's ramp: the fading leg is dropped and a queued leg is brought in, or a RETIRING record is freed
(R68, R69). -/
def endRamp (r : Record) : Option Record :=
  match r.phase with
  | .live                  => some r
  | .ramping _ none        => some { r with phase := .live }
  | .ramping _ (some next) => bringInLive { r with phase := .live } next
  | .retiring _            => none

/-- Does the next increase of k bring it to R? (R67) -/
def rampFinishes (ramp : Ramp) : Bool := ramp.length ≤ ramp.position + 1

/-- A ramp one position on. -/
def rampStep (ramp : Ramp) : Ramp := { ramp with position := ramp.position + 1 }

/-- Step 5 for one record: k increases by one, and a ramp that reaches R is completed (R67, R68). -/
def advanceRecord (r : Record) : Option Record :=
  match r.phase with
  | .live              => some r
  | .ramping ramp next => if rampFinishes ramp then endRamp r else some { r with phase := .ramping (rampStep ramp) next }
  | .retiring ramp     => if rampFinishes ramp then endRamp r else some { r with phase := .retiring (rampStep ramp) }

/-- A slot after step 5. -/
def advanceSlot (sl : RecordSlot) : RecordSlot :=
  match sl.record with
  | none   => sl
  | some r =>
    match advanceRecord r with
    | some r' => { sl with record := some r' }
    | none    => ⟨nextGen sl.gen, none⟩

/-- Does step 5 free the record of this slot? -/
def freedByAdvance (sl : RecordSlot) : Bool := sl.record.isSome && (advanceSlot sl).record.isNone

/-- A map entry after step 5: cleared when its record becomes FREE (R26, R29). -/
def mapAfterAdvance (slots : Vector RecordSlot 160) (entry : Option (Fin 160)) : Option (Fin 160) :=
  match entry with
  | none   => none
  | some i => if freedByAdvance slots[i] then none else some i

/-- Step 5 of a tick (R28, R67). -/
def advanceRamps (rt : RouteTable) : RouteTable :=
  { rt with
    slots   := bankMap advanceSlot rt.slots
    destMap := bankMap (mapAfterAdvance rt.slots) rt.destMap }

/-! ## Edits at apply -/

/-- The leg a MODIFY forms: the latest leg with the named fields replaced and the retire mark clear (R51). -/
def patchLeg (leg : Leg) (p : LegPatch) : Leg where
  source   := p.source.getD leg.source
  mantissa := p.mantissa.getD leg.mantissa
  boost    := p.boost.getD leg.boost
  delay    := p.delay.getD leg.delay
  code     := p.code.getD leg.code
  retire   := false

/-- The retire leg of a record: SILENCE, with the latest leg's mantissa, boost and delay (R52). -/
def retireLeg (r : Record) (code : Fin 8) : Leg :=
  { latestLeg r with source := .silence, code := code, retire := true }

/-- The leg a REVERT forms (R53, R80). -/
def revertLeg (r : Record) (code : Fin 8) : Leg :=
  { latestLeg r with source := r.primary, code := code, retire := false }

/-- Is the record RETIRING? -/
def isRetiring (r : Record) : Bool :=
  match r.phase with
  | .retiring _ => true
  | .live | .ramping _ _ => false

/-- The success outcome of a leg change: APPLIED on a LIVE record, DEFERRED on a RAMPING one (R25). -/
def changeOutcome (r : Record) : EditOutcome :=
  match r.phase with
  | .ramping _ _ => .deferred
  | .live | .retiring _ => .applied

/-- What judging and carrying out one edit gives: its outcome, the handle its result entry records, the table after it. -/
structure Applied where
  outcome : EditOutcome
  handle  : Handle
  table   : RouteTable
  deriving DecidableEq, Repr

/-- The record a CREATE makes (R24). -/
def createRecord (d : Fin 192) (leg : Leg) (backup : Option Backup) : Record where
  dest     := d
  current  := { leg with retire := false }
  phase    := .live
  primary  := leg.source
  backup   := backup
  onBackup := false
  clip     := false
  notices  := ⟨false, false, false⟩

/-- CREATE at apply: PROTECTED, DEST_BUSY, TABLE_FULL, else the record is made in the lowest FREE slot (R50, R24). -/
def applyCreate (rt : RouteTable) (d : Fin 192) (leg : Leg) (backup : Option Backup) : Applied :=
  if isGuarded rt d then ⟨.guarded, 0#16, rt⟩
  else if rt.destMap[d].isSome then ⟨.destBusy, 0#16, rt⟩
  else
    match lowestFree rt with
    | none   => ⟨.tableFull, 0#16, rt⟩
    | some i =>
      ⟨.applied, makeHandle rt.slots[i].gen i,
        { setRecord rt i (createRecord d leg backup) with destMap := bankSet rt.destMap d (some i) }⟩

/-- The record with the effects a MODIFY has on it beside its leg: a named source becomes the primary and clears on-backup
(R51, R18). -/
def modifiedRecord (r : Record) (p : LegPatch) : Record :=
  match p.source with
  | some src => { r with primary := src, onBackup := false }
  | none     => r

/-- MODIFY at apply: STALE, PROTECTED, ROUTE_RETIRING, else the leg change (R51). -/
def applyModify (rt : RouteTable) (h : Handle) (p : LegPatch) : Applied :=
  match checkHandle rt h with
  | .valid i r =>
    if isGuarded rt r.dest then ⟨.guarded, h, rt⟩
    else if isRetiring r then ⟨.routeRetiring, h, rt⟩
    else ⟨changeOutcome r, h, putRecord rt i r.dest (bringIn (modifiedRecord r p) (patchLeg (latestLeg r) p))⟩
  | .range | .stale => ⟨.stale, h, rt⟩

/-- RETIRE at apply: STALE, PROTECTED, ALREADY on a RETIRING record, else the leg change (R52). -/
def applyRetire (rt : RouteTable) (h : Handle) (code : Fin 8) : Applied :=
  match checkHandle rt h with
  | .valid i r =>
    if isGuarded rt r.dest then ⟨.guarded, h, rt⟩
    else if isRetiring r then ⟨.already, h, rt⟩
    else ⟨changeOutcome r, h, putRecord rt i r.dest (bringIn r (retireLeg r code))⟩
  | .range | .stale => ⟨.stale, h, rt⟩

/-- The failover ramp code of a record that has a backup part (R18). -/
def backupCode (r : Record) : Fin 8 :=
  match r.backup with
  | some b => b.code
  | none   => 0

/-- REVERT at apply: STALE, PROTECTED, ROUTE_RETIRING, NOT_ON_BACKUP, else the leg change (R53). -/
def applyRevert (rt : RouteTable) (h : Handle) : Applied :=
  match checkHandle rt h with
  | .valid i r =>
    if isGuarded rt r.dest then ⟨.guarded, h, rt⟩
    else if isRetiring r then ⟨.routeRetiring, h, rt⟩
    else if r.onBackup then
      ⟨changeOutcome r, h, putRecord rt i r.dest (bringIn { r with onBackup := false } (revertLeg r (backupCode r)))⟩
    else ⟨.notOnBackup, h, rt⟩
  | .range | .stale => ⟨.stale, h, rt⟩

/-- One edit judged against the table and, where it passes, carried out (R49). -/
def applyEdit (rt : RouteTable) (e : Edit) : Applied :=
  match e with
  | .create d leg backup => applyCreate rt d leg backup
  | .modify h p          => applyModify rt h p
  | .retire h code       => applyRetire rt h code
  | .revert h            => applyRevert rt h

/-- The kind of an edit (R56). -/
def kindOf (e : Edit) : EditKind :=
  match e with
  | .create .. => .create
  | .modify .. => .modify
  | .retire .. => .retire
  | .revert .. => .revert

/-- Does an outcome count as a failure? (R49) -/
def isFailure (o : EditOutcome) : Bool :=
  match o with
  | .stale | .guarded | .destBusy | .tableFull | .routeRetiring | .notOnBackup => true
  | .applied | .deferred | .already | .skipped => false

/-- The edits of a batch judged and carried out in list order, with their entries (R54). -/
def applyEdits (rt : RouteTable) (edits : List ListedEdit) : RouteTable × List ResultEntry :=
  match edits with
  | []        => (rt, [])
  | e :: rest =>
    let a := applyEdit rt e.edit
    let (rt', entries) := applyEdits a.table rest
    (rt', ⟨kindOf e.edit, e.dest, a.outcome, a.handle⟩ :: entries)

/-- An entry of an aborted batch: its failure code, or SKIPPED; a CREATE records handle 0 (R55). -/
def abortEntry (e : ResultEntry) : ResultEntry :=
  { e with
    outcome := if isFailure e.outcome then e.outcome else .skipped
    handle  := if e.kind = .create then 0#16 else e.handle }

/-- One batch applied: EACH as R54 gives; ALL_OR_NONE run dry and then carried out whole or not at all (R55). -/
def applyBatch (rt : RouteTable) (edits : List ListedEdit) (mode : BatchMode) (arming : Byte) :
    RouteTable × BatchResult :=
  let (rt', entries) := applyEdits rt edits
  let failed := entries.any fun e => isFailure e.outcome
  match mode with
  | .each => (rt', ⟨.each, arming, if failed then .partially else .complete, entries⟩)
  | .allOrNone =>
    if failed then (rt, ⟨.allOrNone, arming, .aborted, entries.map abortEntry⟩)
    else (rt', ⟨.allOrNone, arming, .complete, entries⟩)

/-! ## Step 2: the due batches -/

/-- Is the slot ARMED with its due flag set? -/
def isDue (b : BatchSlot) : Bool :=
  match b with
  | .armed _ _ t _ => t.due
  | .free | .opened _ | .done _ => false

/-- One slot of the arming queue: applied and DONE if it is due, else left alone (R49). -/
def applySlot (w : RouteTable × EditStage) (i : Fin 4) : RouteTable × EditStage :=
  match w.2.slots[i] with
  | .armed edits mode t arming =>
    if t.due then
      let (rt', result) := applyBatch w.1 edits mode arming
      (rt', { w.2 with slots := bankSet w.2.slots i (.done result), queue := w.2.queue.filter (· ≠ i) })
    else w
  | .free | .opened _ | .done _ => w

/-- Step 2 of a tick: the due slots of the arming queue, in arming order (R28, R49). -/
def applyDue (rt : RouteTable) (es : EditStage) : RouteTable × EditStage :=
  es.queue.foldl applySlot (rt, es)

/-! ## Step 1: CLEAR_ALL -/

/-- A record at a CLEAR_ALL: a retire leg with ramp code 1, unless it is RETIRING or guarded without force (R61). -/
def clearRecord (rt : RouteTable) (force : Bool) (r : Record) : Record :=
  if isRetiring r || (isGuarded rt r.dest && !force) then r
  else (bringIn r (retireLeg r 1)).getD r

/-- Step 1 at the Route Table (R61). -/
def clearRoutes (rt : RouteTable) (force : Bool) : RouteTable :=
  { rt with
    slots    := bankMap (fun sl => { sl with record := sl.record.map (clearRecord rt force) }) rt.slots
    clearAll := none }

/-- A batch slot at a CLEAR_ALL: OPEN and ARMED become FREE (R62). -/
def clearBatchSlot (b : BatchSlot) : BatchSlot :=
  match b with
  | .opened _ | .armed .. => .free
  | .free | .done _ => b

/-- Step 1 at the Edit Stage (R62). -/
def clearBatches (es : EditStage) : EditStage :=
  { es with slots := bankMap clearBatchSlot es.slots, queue := [] }

/-- Step 1 of a tick: a pending CLEAR_ALL is carried out (R28, R60). -/
def carryOutClearAll (rt : RouteTable) (es : EditStage) : RouteTable × EditStage :=
  match rt.clearAll with
  | none       => (rt, es)
  | some force => (clearRoutes rt force, clearBatches es)

/-! ## Step 3: failover -/

/-- The entries of the pending trigger set that are taken. -/
structure Taken where
  lost  : Vector Bool 192
  quiet : Vector Bool 192

/-- A backup source is usable: RUNNING with QUIET clear in the source view (R71, R73). -/
def isUsable (sources : Vector Source 192) (n : Fin 192) : Bool :=
  sources[n].state == .running && !sources[n].quiet

/-- Does a taken entry match a candidate record with this backup part? (R72) -/
def matchesEntry (taken : Taken) (r : Record) (b : Backup) : Bool :=
  match (latestLeg r).source with
  | .silence => false
  | .track n => r.primary == .track n && ((b.onLost && taken.lost[n]) || (b.onQuiet && taken.quiet[n]))

/-- The failover leg: the current leg on the backup source, with the failover ramp code (R74). -/
def failoverLeg (r : Record) (b : Backup) : Leg :=
  { r.current with source := .track b.source, code := b.code, retire := false }

/-- The legs of a record at a failover with a usable backup: a queued leg has its source swapped (R75), else the failover
leg is brought in (R74). -/
def failoverLegs (r : Record) (b : Backup) : Record :=
  match r.phase with
  | .ramping ramp (some next) => { r with phase := .ramping ramp (some { next with source := .track b.source }) }
  | .ramping _ none | .live | .retiring _ => (bringIn r (failoverLeg r b)).getD r

/-- A matching record with a usable backup (R74, R75): on-backup and FAILOVER_TAKEN are set. -/
def takeBackup (r : Record) (b : Backup) : Record :=
  let r' := failoverLegs r b
  { r' with onBackup := true, notices := { r'.notices with failoverTaken := true } }

/-- A record at step 3 (R72 to R78). -/
def failoverRecord (sources : Vector Source 192) (taken : Taken) (r : Record) : Record :=
  match r.backup with
  | none   => r
  | some b =>
    if isRetiring r then r
    else if r.onBackup then
      if taken.lost[b.source] then { r with notices := { r.notices with backupLost := true } } else r
    else if matchesEntry taken r b then
      if isUsable sources b.source then takeBackup r b
      else { r with notices := { r.notices with backupUnusable := true } }
    else r

/-- Step 3 for the entries taken: every record is judged by itself (R72). -/
def failover (sources : Vector Source 192) (taken : Taken) (rt : RouteTable) : RouteTable :=
  { rt with
    slots := bankMap (fun sl => { sl with record := sl.record.map (failoverRecord sources taken) }) rt.slots }

/-- Step 3 of a tick: every entry in the set is taken and removed (R70). -/
def takeTriggers (sources : Vector Source 192) (rt : RouteTable) : RouteTable :=
  { failover sources ⟨rt.pendingLost, rt.pendingQuiet⟩ rt with
    pendingLost  := Vector.replicate 192 false
    pendingQuiet := Vector.replicate 192 false }

/-! ## The tick at the Route Table -/

/-- The Route Table's and the Edit Stage's work of a tick, steps 1 to 5 in order (R28, R6); `sources` is the Source Monitor as
it stands before its own work of the tick (R71, R83). -/
def routeTick (sources : Vector Source 192) (rt : RouteTable) (es : EditStage) : RouteTable × EditStage :=
  let w1 := carryOutClearAll rt es
  let w2 := applyDue w1.1 w1.2
  (advanceRamps (computeSamples sources (takeTriggers sources w2.1)), w2.2)

/-- Every destination meter latches at a pulse that closes a non-empty window (R91). -/
def latchDestMeters (rt : RouteTable) : RouteTable :=
  { rt with destMeters := bankMap meterLatch rt.destMeters }

/-- Entries added to the pending trigger set (R70). -/
def addTriggers (rt : RouteTable) (lost quiet : Fin 192 → Bool) : RouteTable :=
  { rt with
    pendingLost  := bankMapIdx (fun n old => old || lost n) rt.pendingLost
    pendingQuiet := bankMapIdx (fun n old => old || quiet n) rt.pendingQuiet }

end Sys2Proof.Machine
end

