-- ==== Sys2Proof/Machine/Operands.lean ====
section
/-!
DEFINITION. The coding of fields, both ways (chapter 11): request fields judged against their values (R45 to R48, R179 to R182),
codes (R180), and the images that responses carry (R181 to R183).
-/
namespace Sys2Proof.Machine

/-! ## Numbers as bytes (R165, R179) -/

/-- A two-byte unsigned number. -/
def twoBytes (n : Nat) : List Byte := wordBytes (BitVec.ofNat 16 n)

/-- A three-byte unsigned number. -/
def threeBytes (n : Nat) : List Byte :=
  [BitVec.ofNat 8 (n / 65536), BitVec.ofNat 8 (n / 256), BitVec.ofNat 8 n]

/-- A number of one byte. -/
def oneByte (n : Nat) : Byte := BitVec.ofNat 8 n

/-- A set as a mask, bit i for member i (R179): member 0 first in the list. -/
def maskOf (members : List Bool) : Nat :=
  match members with
  | [] => 0
  | b :: rest => (if b then 1 else 0) + 2 * maskOf rest

/-- A continue slot or source; 255 is END (R179). -/
def continueByte {n : Nat} (c : Option (Fin n)) : Byte :=
  match c with
  | some i => oneByte i.val
  | none   => 255#8

/-! ## Codes (R180) -/

/-- Edit outcomes. -/
def outcomeCode (o : EditOutcome) : Byte :=
  match o with
  | .applied       => 0#8
  | .deferred      => 1#8
  | .already       => 2#8
  | .stale         => 3#8
  | .guarded       => 4#8
  | .destBusy      => 5#8
  | .tableFull     => 6#8
  | .routeRetiring => 7#8
  | .notOnBackup   => 8#8
  | .skipped       => 9#8

/-- Batch outcomes. -/
def batchOutcomeCode (o : BatchOutcome) : Byte :=
  match o with
  | .complete  => 0#8
  | .partially => 1#8
  | .aborted   => 2#8

/-- Batch modes. -/
def batchModeCode (m : BatchMode) : Byte :=
  match m with
  | .each      => 0#8
  | .allOrNone => 1#8

/-- Edit kinds. -/
def editKindCode (k : EditKind) : Byte :=
  match k with
  | .create => 1#8
  | .modify => 2#8
  | .retire => 3#8
  | .revert => 4#8

/-- Record states of a record that is not FREE. -/
def phaseCode (p : Phase) : Byte :=
  match p with
  | .live         => 1#8
  | .ramping _ _  => 2#8
  | .retiring _   => 3#8

/-- Source states. -/
def sourceStateCode (s : SourceState) : Byte :=
  match s with
  | .idle    => 0#8
  | .priming => 1#8
  | .running => 2#8
  | .starved => 3#8
  | .lost    => 4#8

/-- Batch slot states. -/
def batchSlotCode (b : BatchSlot) : Byte :=
  match b with
  | .free     => 0#8
  | .opened _ => 1#8
  | .armed .. => 2#8
  | .done _   => 3#8

/-- Edge selections. -/
def edgeCode (e : EdgeSelect) : Byte :=
  match e with
  | .enter => 0#8
  | .leave => 1#8
  | .both  => 2#8

/-- Arbiter and priority modes. -/
def priorityModeCode (m : PriorityMode) : Byte :=
  match m with
  | .fixed  => 0#8
  | .rotate => 1#8

/-- Bundle activity. -/
def activityCode (a : Activity) : Byte :=
  match a with
  | .inactive => 0#8
  | .active   => 1#8
  | .closing  => 2#8

/-- Alert classes. -/
def alertClassCode (c : AlertClass) : Byte :=
  match c with
  | .source => 0#8
  | .route  => 1#8
  | .lane   => 2#8
  | .batch  => 3#8

/-- Pin styles. -/
def pinStyleCode (p : PinStyle) : Byte :=
  match p with
  | .level => 0#8
  | .pulse => 1#8

/-- A mask of alert classes (R179, R180). -/
def classMask (f : ClassFlags) : Byte := oneByte (maskOf [f.source, f.route, f.lane, f.batch])

/-- The notices byte (R180). -/
def noticesByte (n : Notices) : Byte := oneByte (maskOf [n.failoverTaken, n.backupUnusable, n.backupLost])

/-! ## Request fields judged (a code that names no value is out of range, R179) -/

/-- A leg source: 0 to 191 or 255 (R1, R45). -/
def decodeLegSource (b : Byte) : Option LegSource :=
  if b = 255#8 then some .silence else (toIndex 192 b.toNat).map .track

/-- The ramp code of a request's ramp byte: bits 7 to 3 must be 0 (R181). -/
def decodeRamp (b : Byte) : Option (Fin 8) := toIndex 8 b.toNat

/-- A leg of CREATE, all fields in range (R45); the retire mark is clear. -/
def decodeLeg (l : RawLeg) : Option Leg :=
  match decodeLegSource l.source, toIndex 3 l.boost.toNat, toIndex 3841 l.delay.toNat, decodeRamp l.ramp with
  | some src, some b, some d, some c => some ⟨src, l.mantissa, b, d, c, false⟩
  | _, _, _, _ => none

/-- The backup part of CREATE: presence 0 or 1; with 0 its bytes are not checked (R45, R179, R182). The answer none is
RANGE; `some none` is no backup part. -/
def decodeBackup (presence source triggers code : Byte) : Option (Option Backup) :=
  if presence = 0#8 then some none
  else if presence = 1#8 then
    match toIndex 192 source.toNat, decodeRamp code with
    | some src, some c =>
      if triggers.toNat ≤ 3 then some (some ⟨src, triggers.getLsbD 0, triggers.getLsbD 1, c⟩) else none
    | _, _ => none
  else none

/-- A field a MODIFY names or not: not named is not checked (R46); the outer none is RANGE. -/
def decodeNamed {α : Type} (named : Bool) (field : Option α) : Option (Option α) :=
  if named then field.map some else some none

/-- The field mask and values of a MODIFY: at least one field named, bits 5 to 7 zero (R46, R182). -/
def decodePatch (mask : Byte) (l : RawLeg) : Option LegPatch :=
  if mask = 0#8 ∨ 32 ≤ mask.toNat then none
  else
    match decodeNamed (mask.getLsbD 0) (decodeLegSource l.source), decodeNamed (mask.getLsbD 1) (some l.mantissa),
      decodeNamed (mask.getLsbD 2) (toIndex 3 l.boost.toNat), decodeNamed (mask.getLsbD 3) (toIndex 3841 l.delay.toNat),
      decodeNamed (mask.getLsbD 4) (decodeRamp l.ramp) with
    | some src, some m, some b, some d, some c => some ⟨src, m, b, d, c⟩
    | _, _, _, _, _ => none

/-- Checks 3 and 4 of ADD_EDIT: the kind, then every field in range (R44 to R47). -/
def decodeEdit (f : EditFields) : Option Edit :=
  match f with
  | .create dest leg presence bs tr fc =>
    match toIndex 192 dest.toNat, decodeLeg leg, decodeBackup presence bs tr fc with
    | some d, some l, some b => some (.create d l b)
    | _, _, _ => none
  | .modify h mask leg => (decodePatch mask leg).map (.modify h)
  | .retire h code => (toIndex 8 code.toNat).map (.retire h)
  | .revert h => some (.revert h)
  | .unknown _ => none

/-- A batch mode (R180). -/
def decodeBatchMode (b : Byte) : Option BatchMode :=
  match b.toNat with
  | 0 => some .each
  | 1 => some .allOrNone
  | _ => none

/-- A timing source (R180). -/
def decodeTimingSource (b : Byte) : Option TimingSource :=
  match toIndex 8 b.toNat with
  | some n => some (.lane n)
  | none   => if b = 8#8 then some .ref else if b = 9#8 then some .immediate else none

/-- The timing entry ARM_BATCH gives: a frame count of 1 to 16 for REF and lanes, ignored for IMMEDIATE, which is due at once
(R10, R12, R48). -/
def decodeTiming (timing frames : Byte) : Option Timing :=
  match decodeTimingSource timing with
  | none => none
  | some .immediate => some ⟨.immediate, 0, true⟩
  | some src => if 1 ≤ frames.toNat ∧ frames.toNat ≤ 16 then some ⟨src, frames.toNat, false⟩ else none

/-- An edge selection (R180). -/
def decodeEdge (b : Byte) : Option EdgeSelect :=
  match b.toNat with
  | 0 => some .enter
  | 1 => some .leave
  | 2 => some .both
  | _ => none

/-- FIXED or ROTATE (R180). -/
def decodePriorityMode (b : Byte) : Option PriorityMode :=
  match b.toNat with
  | 0 => some .fixed
  | 1 => some .rotate
  | _ => none

/-- An alert class (R180). -/
def decodeAlertClass (b : Byte) : Option AlertClass :=
  match b.toNat with
  | 0 => some .source
  | 1 => some .route
  | 2 => some .lane
  | 3 => some .batch
  | _ => none

/-- A pin style (R180). -/
def decodePinStyle (b : Byte) : Option PinStyle :=
  match b.toNat with
  | 0 => some .level
  | 1 => some .pulse
  | _ => none

/-- A pulse width: 1, 4 or 16 (R180). -/
def decodeWidth (b : Byte) : Option Nat :=
  if b.toNat = 1 ∨ b.toNat = 4 ∨ b.toNat = 16 then some b.toNat else none

/-- Class masks: bits 4 to 7 must be 0 (R179). -/
def decodeClassMask (b : Byte) : Option ClassFlags :=
  if b.toNat < 16 then some ⟨b.getLsbD 0, b.getLsbD 1, b.getLsbD 2, b.getLsbD 3⟩ else none

/-- The monitor settings of SET_MONITOR (R109). -/
def decodeSettings (lossTime q f lostEdges quietEdges : Byte) : Option MonitorSettings :=
  match decodeEdge lostEdges, decodeEdge quietEdges with
  | some le, some qe =>
    if 8 ≤ q.toNat ∧ q.toNat ≤ 23 ∧ 1 ≤ f.toNat then some ⟨lossTime.toNat, q.toNat, f.toNat, le, qe⟩ else none
  | _, _ => none

/-- The lane settings of SET_LANE (R131). -/
def decodeLaneSettings (switchLine : Word) (keepMask budget mode lowest : Byte) : Option LaneSettings :=
  match decodePriorityMode mode, toIndex 8 lowest.toNat with
  | some m, some lo =>
    if 1 ≤ switchLine.toNat ∧ switchLine.toNat ≤ 2047 ∧ 1 ≤ budget.toNat ∧ budget.toNat ≤ 8 then
      some ⟨switchLine.toNat, keepMask, budget.toNat, m, lo⟩
    else none
  | _, _ => none

/-! ## Images (R181 to R183) -/

/-- A source number; SILENCE is 255 (R179). -/
def legSourceByte (s : LegSource) : Byte :=
  match s with
  | .track n => oneByte n.val
  | .silence => 255#8

/-- The seven bytes of a leg; bit 7 of the ramp byte is the retire mark (R181). -/
def legImage (l : Leg) : List Byte :=
  [legSourceByte l.source] ++ wordBytes l.mantissa ++ [oneByte l.boost.val] ++ twoBytes l.delay.val ++
    [oneByte (l.code.val + if l.retire then 128 else 0)]

/-- A part marked absent is sent as zero bytes (R182). -/
def zeroBytes (n : Nat) : List Byte := List.replicate n 0#8

/-- The queued next leg of a record (R17). -/
def nextLegOf (r : Record) : Option Leg :=
  match r.phase with
  | .ramping _ next => next
  | .live | .retiring _ => none

/-- The fading leg, R and k of the image, 11 bytes. -/
def rampImage (o : Option Ramp) : List Byte :=
  match o with
  | some ramp => legImage ramp.fading ++ twoBytes ramp.length ++ twoBytes ramp.position
  | none      => zeroBytes 11

/-- An optional leg of the image, 7 bytes. -/
def optionalLegImage (o : Option Leg) : List Byte :=
  match o with
  | some l => legImage l
  | none   => zeroBytes 7

/-- The backup part of the image, 3 bytes. -/
def backupImage (o : Option Backup) : List Byte :=
  match o with
  | some b => [oneByte b.source.val, oneByte (maskOf [b.onLost, b.onQuiet]), oneByte b.code.val]
  | none   => zeroBytes 3

/-- The record image of READ_ROUTE, 36 bytes (R34, R182). -/
def recordImage (h : Handle) (r : Record) : List Byte :=
  wordBytes h ++ [phaseCode r.phase, oneByte r.dest.val] ++
  [oneByte (maskOf [(rampOf r).isSome, (nextLegOf r).isSome, r.backup.isSome])] ++
  legImage r.current ++ rampImage (rampOf r) ++ optionalLegImage (nextLegOf r) ++
  [legSourceByte r.primary] ++ backupImage r.backup ++
  [oneByte (maskOf [r.onBackup, r.clip]), noticesByte r.notices]

/-- One entry of the result image, 5 bytes (R182). -/
def resultEntryImage (e : ResultEntry) : List Byte :=
  [editKindCode e.kind, oneByte e.dest.val, outcomeCode e.outcome] ++ wordBytes e.handle

/-- The result image of READ_RESULT (R182). -/
def resultImage (r : BatchResult) : List Byte :=
  [batchModeCode r.mode, r.arming, oneByte r.entries.length, batchOutcomeCode r.outcome] ++
    r.entries.flatMap resultEntryImage

/-- The source image of READ_SOURCE, 11 bytes (R108, R183). -/
def sourceImage (src : Source) : List Byte :=
  [sourceStateCode src.state, flagByte src.quiet, oneByte src.quietCount, oneByte src.fifo.length] ++
  twoBytes src.underrun ++ twoBytes src.overrun ++
  [oneByte src.meter.level, flagByte src.changeFlag, flagByte src.changeEnable]

/-- A meter pair, 4 bytes (R183). -/
def meterPair (m : Meter) : List Byte := threeBytes m.peak ++ [oneByte m.level]

/-- The five settings of a lane as they are sent, 6 bytes (R179). -/
def laneSettingsBytes (st : LaneSettings) : List Byte :=
  twoBytes st.switchLine ++ [st.keepMask, oneByte st.budget, priorityModeCode st.mode, oneByte st.lowest.val]

/-- The lane image of READ_LANE, 57 bytes (R130, R183). -/
def laneImage (l : Lane) : List Byte :=
  [flagByte (!isAbsent l), flagByte l.changeFlag] ++ laneSettingsBytes l.settings ++
  [flagByte l.pendingSettings.isSome] ++
  twoBytes l.excess ++ twoBytes l.truncated ++ twoBytes l.checkError ++ twoBytes l.malformed ++
  (l.inBundles.toList.flatMap fun b => twoBytes b.gap) ++
  (l.outBundles.toList.map fun b => activityCode b.activity) ++
  (l.outBundles.toList.flatMap fun b => twoBytes b.overflow)

/-- The monitor settings as they are sent, 5 bytes (R179). -/
def settingsBytes (st : MonitorSettings) : List Byte :=
  [oneByte st.lossTime, oneByte st.quietLevel, oneByte st.quietFrames, edgeCode st.lostEdges, edgeCode st.quietEdges]

/-- The alert state, 6 bytes (R160, R183). -/
def alertStateImage (s : State) : List Byte :=
  [classMask (requests s), classMask s.alert.masked, classMask s.alert.inService, priorityModeCode s.alert.mode,
    alertClassCode s.alert.pointer, classMask (eligibleNow s)]

/-- The alert settings SET_ALERT returns with the eligible set, 6 bytes (R162, R183). -/
def alertSettingsImage (s : State) : List Byte :=
  [classMask s.alert.masked, priorityModeCode s.alert.mode, alertClassCode s.alert.pointer, pinStyleCode s.alert.style,
    oneByte s.alert.width, classMask (eligibleNow s)]

/-- The enables of the eight desk ports: bits 0 to 3 DI0 to DI3, bits 4 to 7 DO0 to DO3 (R105, R179). -/
def deskEnables (d : Desk) : Byte :=
  oneByte (maskOf (d.ins.toList.map (·.enabled) ++ d.outs.toList.map (·.enabled)))

/-- The change enables in force as one set (R111). -/
def enablesInForce (sources : Vector Source 192) : BitVec 192 :=
  BitVec.ofNat 192 (maskOf (sources.toList.map (·.changeEnable)))

/-- The mask of the lanes' change flags (R118). -/
def laneFlags (lanes : Vector Lane 8) : Byte := oneByte (maskOf (lanes.toList.map (·.changeFlag)))

/-- CLEAR_ALL pending: 0 no, 1 yes, 2 yes with force (R183). -/
def clearAllCode (c : Option Bool) : Byte :=
  match c with
  | none       => 0#8
  | some false => 1#8
  | some true  => 2#8

/-- The guards as the two bytes of a port mask (R179). -/
def guardBytes (g : BitVec 12) : List Byte := wordBytes (g.setWidth 16)

/-- The status block, 13 bytes (R174, R183). -/
def statusBlock (s : State) : List Byte :=
  wordBytes Config.partCode ++ [Config.revision, flagByte s.link.fresh, oneByte (freeSlotCount s.route)] ++
  (s.edit.slots.toList.map batchSlotCode) ++ [clearAllCode s.route.clearAll] ++ guardBytes s.route.guards ++
  [oneByte (maskOf (s.lanes.toList.map fun l => !isAbsent l))]

end Sys2Proof.Machine
end

