-- ==== Sys2Proof/Machine/Ops.lean ====
section
/-!
DEFINITION. The shared operations behind the meanings: taking an event (R157, R159, R175), taking a request and making its
response (R168, R169), switch points (R9, R10), paging (R36, R38, R112), and the three big events, the sample tick (R6, R28), the
reference pulse (R7) and the line event (R116).
-/
namespace Sys2Proof.Machine

/-! ## Events -/

/-- The pulse count of ALERT_N after an event: in PULSE style it is loaded when the eligible set went from empty to not empty
(R157, R159). `s` is the state before the event, `t` after it. A change of style starts no pulse (R162). -/
def settle (s t : State) : State :=
  if s.alert.style = .pulse ∧ t.alert.style = .pulse ∧ alertWaiting s = false ∧ alertWaiting t = true then
    { t with alert := { t.alert with pulse := some t.alert.width } }
  else t

/-- An event taken: nothing while RESET_N is low (R175), else its work with the eligible set judged anew (R157). -/
def takeEvent (s : State) (work : State → State) : Host.Outcome State Fault Refusal :=
  if s.rstLow then .next s else .next (settle s (work s))

/-- An event whose operand an environment can send; any other term is refused (log 12). -/
def takeWellFormed (ok : Bool) (s : State) (work : State → State) : Host.Outcome State Fault Refusal :=
  if ok then takeEvent s work else .refused .illFormed

/-! ## Requests -/

/-- A request taken by its owning block (R169), once it has been handed over to it. `act` gives the state after the command and
the response. -/
def takeRequest (i : Instr) (s : State) (act : State → State × Response) : Host.Outcome State Fault Refusal :=
  takeEvent s fun s =>
    let s' := handOver i s
    if s'.link.state = .processing i then respond (act s').1 (act s').2 else s'

/-- A request that only reads. -/
def takeRead (i : Instr) (s : State) (answer : State → Response) : Host.Outcome State Fault Refusal :=
  takeRequest i s fun s => (s, answer s)

/-! ## Paging (R36, R38, R112) -/

/-- Items collected upward over the indices given, at most `room`, with the index after the last one examined (none is END). -/
def collectPage {n : Nat} {α : Type} (pick : Fin n → Option α) (is : List (Fin n)) (room : Nat) :
    List α × Option (Fin n) :=
  match is with
  | [] => ([], none)
  | i :: rest =>
    match pick i with
    | none => collectPage pick rest room
    | some a =>
      if room ≤ 1 then ([a], rest.head?)
      else
        let page := collectPage pick rest (room - 1)
        (a :: page.1, page.2)

/-- The indices from a start upward. -/
def indicesFrom {n : Nat} (start : Fin n) : List (Fin n) := (bankIndices n).drop start.val

/-- One page from a start: 32 items at most. -/
def pageFrom {n : Nat} {α : Type} (pick : Fin n → Option α) (start : Fin n) : List α × Option (Fin n) :=
  collectPage pick (indicesFrom start) Config.pageLimit

/-- The payload of a page: count, continue byte, items. -/
def pageBytes {n : Nat} (page : List (List Byte) × Option (Fin n)) : List Byte :=
  [oneByte page.1.length, continueByte page.2] ++ page.1.flatten

/-! ## Switch points (R9, R10) -/

/-- A timing entry at a switch point of its own source: counted unless due; at 0 it becomes due (R10). -/
def countTiming (t : Timing) : Timing :=
  if t.due then t else { t with remaining := t.remaining - 1, due := t.remaining ≤ 1 }

/-- A batch slot at a switch point of a timing source (R10). -/
def countSlot (source : TimingSource) (b : BatchSlot) : BatchSlot :=
  match b with
  | .armed edits mode t arming => if t.source = source then .armed edits mode (countTiming t) arming else b
  | .free | .opened _ | .done _ => b

/-- A switch point taken by the Edit Stage (R10). -/
def switchPoint (source : TimingSource) (es : EditStage) : EditStage :=
  { es with slots := bankMap (countSlot source) es.slots }

/-! ## The sample tick -/

/-- The work of every source at a tick (R98 to R102). -/
def monitorWork (m : SourceMonitor) : Vector SourceWork 192 := bankMap (sourceWork m.settings) m.sources

/-- An input bundle's reference after a tick at which its sources did this work (R127). -/
def resetReference (works : Vector SourceWork 192) (n j : Fin 8) (b : InBundle) : InBundle :=
  if works[trackA n j].becameIdle || works[trackB n j].becameIdle then { b with seqRef := none } else b

/-- The references of a lane after a tick (R127). -/
def resetReferences (works : Vector SourceWork 192) (n : Fin 8) (lane : Lane) : Lane :=
  { lane with inBundles := bankMapIdx (resetReference works n) lane.inBundles }

/-- A running pulse count at a tick: decreased by one, stopped at 0 (R159). -/
def pulseTick (a : AlertController) : AlertController :=
  match a.pulse with
  | none   => a
  | some c => { a with pulse := if c ≤ 1 then none else some (c - 1) }

/-- The sources as the Source Monitor's own work of a tick finds them: after the desk pushes taken first (R104). -/
def sourcesAtTick (desk : List DeskArrival) (s : State) : Vector Source 192 :=
  pushDesk s.desk desk true s.monitor.sources

/-- The work of all sources at a tick. -/
def worksAtTick (desk : List DeskArrival) (s : State) : Vector SourceWork 192 :=
  monitorWork { s.monitor with sources := sourcesAtTick desk s }

/-- The sample tick, whole (R6, R28): every block uses what the others made at earlier ticks (1.3.1), so each works on `s`. -/
def tick (desk : List DeskArrival) (s : State) : State :=
  let works := worksAtTick desk s
  let rw := routeTick s.monitor.sources s.route s.edit
  { s with
    alert        := pulseTick s.alert
    lanes        := bankMapIdx (fun n l => resetReferences works n (laneTick s.route n l)) s.lanes
    desk         := deskTick s.route.destSamples s.desk
    route        := addTriggers rw.1 (fun n => works[n].enteredLost) (fun _ => false)
    edit         := rw.2
    monitor      := { s.monitor with sources := pushDesk s.desk desk false (bankMap (·.source) works) }
    windowTicked := true }

/-! ## The reference pulse -/

/-- The sources at a pulse that closes a non-empty window, each with whether it enters QUIET (R91, R94). -/
def frameWorks (m : SourceMonitor) : Vector (Source × Bool) 192 := bankMap (sourceFrame m.settings) m.sources

/-- The metering window closed: meters latched and QUIET assessed, if it held a tick (R7, R8). -/
def closeWindow (s : State) : State :=
  if s.windowTicked then
    { s with
      route   := addTriggers (latchDestMeters s.route) (fun _ => false) (fun n => (frameWorks s.monitor)[n].2)
      monitor := { s.monitor with sources := bankMap (·.1) (frameWorks s.monitor) }
      windowTicked := false }
  else s

/-- A REF_FRAME pulse: the window closes, and REF-timed batches count a switch point (R7, R8, R10). -/
def referencePulse (s : State) : State :=
  { closeWindow s with edit := switchPoint .ref s.edit }

/-! ## The line event -/

/-- The lane before its words are parsed: settings in force, then PRESENT (R116 parts 1 and 2). -/
def laneAtLine (lane : Lane) : Lane := becomePresent (bringSettings lane)

/-- The Edit Stage at a line event: a switch point when the line number is the switch line in force (R9, R116 part 3). -/
def lineSwitchPoint (n : Fin 8) (line : Nat) (lane : Lane) (es : EditStage) : EditStage :=
  if line = lane.settings.switchLine then switchPoint (.lane n) es else es

/-- An input line event of a lane, whole, in the order of R116. -/
def lineEvent (n : Fin 8) (line : Nat) (words : List Word) (s : State) : State :=
  let lane := laneAtLine s.lanes[n]
  let w := receiveLine n lane s.monitor.sources words
  { s with
    lanes   := bankSet s.lanes n (transmitLine w.lane line w.list)
    monitor := { s.monitor with sources := w.sources }
    edit    := lineSwitchPoint n line lane s.edit }

/-! ## Parts of events -/

/-- One entry of the pending trigger set taken and removed, if it stands there (R70, R72). -/
def takeTrigger (sources : Vector Source 192) (n : Fin 192) (kind : TriggerKind) (rt : RouteTable) : RouteTable :=
  let noEntry : Vector Bool 192 := Vector.replicate 192 false
  match kind with
  | .lost =>
    if rt.pendingLost[n] then
      { failover sources ⟨bankSet noEntry n true, noEntry⟩ rt with pendingLost := bankSet rt.pendingLost n false }
    else rt
  | .quiet =>
    if rt.pendingQuiet[n] then
      { failover sources ⟨noEntry, bankSet noEntry n true⟩ rt with pendingQuiet := bankSet rt.pendingQuiet n false }
    else rt

/-- The end of the ramp of the RAMPING record in a slot, once its last position has been reached (R67, R68). -/
def rampEndAt (rt : RouteTable) (i : Fin 160) : RouteTable :=
  match rt.slots[i].record with
  | none   => rt
  | some r =>
    match r.phase with
    | .ramping ramp _ => if rampFinishes ramp then putRecord rt i r.dest (endRamp r) else rt
    | .live | .retiring _ => rt

/-- The end of the retire ramp of the RETIRING record in a slot (R67, R69). -/
def retireEndAt (rt : RouteTable) (i : Fin 160) : RouteTable :=
  match rt.slots[i].record with
  | none   => rt
  | some r =>
    match r.phase with
    | .retiring ramp => if rampFinishes ramp then putRecord rt i r.dest (endRamp r) else rt
    | .live | .ramping _ _ => rt

/-- The references of a lane when the source `n` has become IDLE (R127). -/
def resetReferencesOf (n : Fin 192) (m : Fin 8) (lane : Lane) : Lane :=
  { lane with
    inBundles :=
      bankMapIdx (fun j b => if trackA m j = n ∨ trackB m j = n then { b with seqRef := none } else b) lane.inBundles }

/-- The work of one source at a tick with what follows from it in the other blocks: the sequence reference (R127) and the LOST
entry (R70). -/
def workOne (n : Fin 192) (s : State) : State :=
  let w := sourceWork s.monitor.settings s.monitor.sources[n]
  { s with
    monitor := { s.monitor with sources := bankSet s.monitor.sources n w.source }
    lanes   := if w.becameIdle then bankMapIdx (resetReferencesOf n) s.lanes else s.lanes
    route   := addTriggers s.route (fun k => decide (k = n) && w.enteredLost) fun _ => false }

/-- The tick that brings a PRESENT lane's count to 240, taken by the presence state alone (R117). -/
def presenceTimeout (lane : Lane) : Lane :=
  match lane.presence with
  | .absent => lane
  | .present count => if Config.absenceTicks ≤ count + 1 then presenceTick lane else lane

/-- The tick that brings the pulse count to 0, taken by the count alone (R159). -/
def pulseEnd (a : AlertController) : AlertController :=
  match a.pulse with
  | none   => a
  | some c => if c ≤ 1 then pulseTick a else a

/-- The assessment of a source by its level code when it sets QUIET, with the entry it adds (R94, R70; log 15). -/
def enterQuiet (n : Fin 192) (s : State) : State :=
  let q := assessQuiet s.monitor.settings s.monitor.sources[n]
  if q.2 then
    { s with
      monitor := { s.monitor with sources := bankSet s.monitor.sources n q.1 }
      route   := addTriggers s.route (fun _ => false) fun k => decide (k = n) }
  else s

/-- The switch point that brings an ARMED slot's remaining count to 0, taken by that slot alone (R10). -/
def becomeDue (b : BatchSlot) : BatchSlot :=
  match b with
  | .armed edits mode t arming => if t.remaining ≤ 1 then .armed edits mode (countTiming t) arming else b
  | .free | .opened _ | .done _ => b

/-! ## Reset -/

/-- The part as an assertion of RESET_N leaves it (R40, R63, R82, R114, R133, R151, R164, R175, R184); the queue and the
counter of free values are the model's own and stay. -/
def resetState (s : State) : State :=
  { State.reset with rstLow := true, freeCount := s.freeCount, pending := s.pending }

/-- A low level of RESET_N shorter than the recognised time: a whole device reset or nothing, by the free value of its number
(R175; log 7). -/
def shortReset (s : State) : State :=
  let s' := { s with freeCount := s.freeCount + 1 }
  if Config.shortResetTaken s.freeCount then resetState s' else s'

/-- The release of RESET_N: the first metering window opens, and a transaction whose CS_N is already low is not taken (R7, R175). -/
def releaseReset (csLow : Bool) (s : State) : State :=
  { s with rstLow := false, windowTicked := false, link := { s.link with csHeld := csLow } }

end Sys2Proof.Machine
end

