-- ==== Sys2Proof/Machine/AlertCommands.lean ====
section
/-!
DEFINITION. The requests the Alert Controller takes (R160 to R162).
-/
namespace Sys2Proof.Machine

/-- The in-service flag of a class set or cleared. -/
def setInService (s : State) (c : AlertClass) (b : Bool) : State :=
  { s with alert := { s.alert with inService := setClassFlag s.alert.inService c b } }

/-- POLL_ALERT at the Alert Controller (R160): the highest eligible class is marked in service; NONE carries the class byte 255
and the alert state (R179). -/
def pollAlert (s : State) : State × Response :=
  match highestEligible s with
  | some c => (setInService s c true, okWith (alertClassCode c :: alertStateImage (setInService s c true)))
  | none   => (s, ⟨.none, 255#8 :: alertStateImage s⟩)

/-- POLL_ALERT (R160). -/
def execPollAlert (s : State) : Host.Outcome State Fault Refusal :=
  takeRequest .pollAlert s pollAlert

/-- The service of a class ended: its flag is cleared and, in ROTATE mode, the pointer is set to it (R161). -/
def endService (s : State) (c : AlertClass) : State :=
  { s with
    alert :=
      { s.alert with
        inService := setClassFlag s.alert.inService c false
        pointer   :=
          match s.alert.mode with
          | .rotate => c
          | .fixed  => s.alert.pointer } }

/-- ACK_ALERT at the Alert Controller (R161). -/
def ackAlert (s : State) (cls : Byte) : State × Response :=
  match decodeAlertClass cls with
  | none => (s, statusOnly .range)
  | some c =>
    if classFlag s.alert.inService c then (endService s c, okWith (alertStateImage (endService s c)))
    else (s, statusOnly .badState)

/-- ACK_ALERT (R161). -/
def execAckAlert (cls : Byte) (s : State) : Host.Outcome State Fault Refusal :=
  takeRequest (.ackAlert cls) s fun s => ackAlert s cls

/-- The pulse count after a SET_ALERT: a change of style stops a running pulse and starts none (R162). -/
def pulseAfterStyle (old new : PinStyle) (pulse : Option Nat) : Option Nat :=
  match old, new with
  | .pulse, .pulse => pulse
  | .pulse, .level => none
  | .level, .pulse => none
  | .level, .level => none

/-- The alert settings replaced together; the pointer takes the lowest class in either mode (R162). -/
def putAlert (s : State) (masked : ClassFlags) (mode : PriorityMode) (lowest : AlertClass) (style : PinStyle) (width : Nat) :
    State :=
  { s with
    alert :=
      { masked    := masked
        inService := s.alert.inService
        mode      := mode
        pointer   := lowest
        style     := style
        width     := width
        pulse     := pulseAfterStyle s.alert.style style s.alert.pulse } }

/-- SET_ALERT at the Alert Controller: all settings in range, or nothing changes (R162). -/
def setAlert (s : State) (masks mode lowest style width : Byte) : State × Response :=
  match decodeClassMask masks, decodePriorityMode mode, decodeAlertClass lowest, decodePinStyle style, decodeWidth width with
  | some mk, some md, some lo, some st, some w =>
    (putAlert s mk md lo st w, okWith (alertSettingsImage (putAlert s mk md lo st w)))
  | _, _, _, _, _ => (s, statusOnly .range)

/-- SET_ALERT (R162). -/
def execSetAlert (masks mode lowest style width : Byte) (s : State) : Host.Outcome State Fault Refusal :=
  takeRequest (.setAlert masks mode lowest style width) s fun s => setAlert s masks mode lowest style width

end Sys2Proof.Machine
end

