-- ==== Sys2Proof/Machine/BatchCommands.lean ====
section
/-!
DEFINITION. The requests the Edit Stage takes (R43, R44, R48, R57 to R59).
-/
namespace Sys2Proof.Machine

/-- Is the slot OPEN? -/
def isOpened (b : BatchSlot) : Bool :=
  match b with
  | .opened _ => true
  | .free | .armed .. | .done _ => false

/-- Is the slot FREE? -/
def isFreeSlot (b : BatchSlot) : Bool :=
  match b with
  | .free => true
  | .opened _ | .armed .. | .done _ => false

/-- The lowest-numbered slot that meets a test. -/
def lowestSlot (test : BatchSlot → Bool) (es : EditStage) : Option (Fin 4) :=
  (bankIndices 4).find? fun i => test es.slots[i]

/-- A slot of the Edit Stage replaced. -/
def setSlot (es : EditStage) (i : Fin 4) (b : BatchSlot) : EditStage :=
  { es with slots := bankSet es.slots i b }

/-- A slot freed; it leaves the arming queue if it stands there (R42, R58, R59). -/
def freeSlot (es : EditStage) (i : Fin 4) : EditStage :=
  { es with slots := bankSet es.slots i .free, queue := es.queue.filter (· ≠ i) }

/-- OPEN_BATCH at the Edit Stage (R43). -/
def openBatch (es : EditStage) : EditStage × Response :=
  match lowestSlot isOpened es with
  | some i => (es, ⟨.alreadyOpen, [oneByte i.val]⟩)
  | none =>
    match lowestSlot isFreeSlot es with
    | some i => (setSlot es i (.opened []), okWith [oneByte i.val])
    | none   => (es, statusOnly .noSlot)

/-- OPEN_BATCH (R43). -/
def execOpenBatch (s : State) : Host.Outcome State Fault Refusal :=
  takeRequest .openBatch s fun s => ({ s with edit := (openBatch s.edit).1 }, (openBatch s.edit).2)

/-- The destination of the record a handle names, or the code of check 5 (R44, R22). -/
def handleDest (rt : RouteTable) (h : Handle) : Except Status (Fin 192) :=
  match checkHandle rt h with
  | .range     => .error .range
  | .stale     => .error .stale
  | .valid _ r => .ok r.dest

/-- Check 5 of ADD_EDIT with the destination of the edit (R44). -/
def editDest (rt : RouteTable) (e : Edit) : Except Status (Fin 192) :=
  match e with
  | .create d _ _ => .ok d
  | .modify h _   => handleDest rt h
  | .retire h _   => handleDest rt h
  | .revert h     => handleDest rt h

/-- Checks 3 to 7 of ADD_EDIT on an OPEN slot's list: the code, or the edit as it is listed (R44). -/
def judgeEdit (rt : RouteTable) (list : List ListedEdit) (f : EditFields) : Except Status ListedEdit :=
  match decodeEdit f with
  | none => .error .range
  | some e =>
    match editDest rt e with
    | .error code => .error code
    | .ok d =>
      if Config.editLimit ≤ list.length then .error .batchFull
      else if list.any fun x => x.dest == d then .error .duplicate
      else .ok ⟨e, d⟩

/-- ADD_EDIT at the Edit Stage (R44). -/
def addEdit (rt : RouteTable) (es : EditStage) (slot : Byte) (f : EditFields) : EditStage × Response :=
  match toIndex 4 slot.toNat with
  | none => (es, statusOnly .range)
  | some i =>
    match es.slots[i] with
    | .opened list =>
      match judgeEdit rt list f with
      | .error code => (es, statusOnly code)
      | .ok e => (setSlot es i (.opened (list ++ [e])), okWith [oneByte list.length, oneByte (list.length + 1)])
    | .free | .armed .. | .done _ => (es, statusOnly .notOpen)

/-- ADD_EDIT (R44). -/
def execAddEdit (slot : Byte) (fields : EditFields) (s : State) : Host.Outcome State Fault Refusal :=
  takeRequest (.addEdit slot fields) s fun s =>
    ({ s with edit := (addEdit s.route s.edit slot fields).1 }, (addEdit s.route s.edit slot fields).2)

/-- A slot armed: it joins the end of the queue and takes the next arming number, 255 followed by 0 (R42, R48). -/
def armSlot (es : EditStage) (i : Fin 4) (list : List ListedEdit) (mode : BatchMode) (t : Timing) : EditStage where
  slots      := bankSet es.slots i (.armed list mode t es.nextArming)
  queue      := es.queue ++ [i]
  nextArming := es.nextArming + 1#8

/-- ARM_BATCH at the Edit Stage (R48). -/
def armBatch (es : EditStage) (slot timing frames mode : Byte) : EditStage × Response :=
  match toIndex 4 slot.toNat with
  | none => (es, statusOnly .range)
  | some i =>
    match es.slots[i] with
    | .opened list =>
      match decodeTiming timing frames, decodeBatchMode mode with
      | some t, some m =>
        if list.isEmpty then (es, statusOnly .empty) else (armSlot es i list m t, okWith [es.nextArming])
      | _, _ => (es, statusOnly .range)
    | .free | .armed .. | .done _ => (es, statusOnly .notOpen)

/-- ARM_BATCH (R48). -/
def execArmBatch (slot timing frames mode : Byte) (s : State) : Host.Outcome State Fault Refusal :=
  takeRequest (.armBatch slot timing frames mode) s fun s =>
    ({ s with edit := (armBatch s.edit slot timing frames mode).1 }, (armBatch s.edit slot timing frames mode).2)

/-- The answer of READ_RESULT (R57). -/
def readResult (es : EditStage) (slot : Byte) : Response :=
  match toIndex 4 slot.toNat with
  | none => statusOnly .range
  | some i =>
    match es.slots[i] with
    | .done r => okWith (resultImage r)
    | .free | .opened _ | .armed .. => statusOnly .notDone

/-- READ_RESULT (R57). -/
def execReadResult (slot : Byte) (s : State) : Host.Outcome State Fault Refusal :=
  takeRead (.readResult slot) s fun s => readResult s.edit slot

/-- RELEASE_BATCH at the Edit Stage (R58). -/
def releaseBatch (es : EditStage) (slot : Byte) : EditStage × Response :=
  match toIndex 4 slot.toNat with
  | none => (es, statusOnly .range)
  | some i =>
    match es.slots[i] with
    | .opened _ | .done _ => (setSlot es i .free, okWith [])
    | .free | .armed .. => (es, statusOnly .badState)

/-- RELEASE_BATCH (R58). -/
def execReleaseBatch (slot : Byte) (s : State) : Host.Outcome State Fault Refusal :=
  takeRequest (.releaseBatch slot) s fun s =>
    ({ s with edit := (releaseBatch s.edit slot).1 }, (releaseBatch s.edit slot).2)

/-- CANCEL_BATCH at the Edit Stage (R59). -/
def cancelBatch (es : EditStage) (slot : Byte) : EditStage × Response :=
  match toIndex 4 slot.toNat with
  | none => (es, statusOnly .range)
  | some i =>
    match es.slots[i] with
    | .opened _ => (setSlot es i .free, okWith [])
    | .armed .. => (freeSlot es i, okWith [])
    | .done _   => (es, statusOnly .tooLate)
    | .free     => (es, statusOnly .badState)

/-- CANCEL_BATCH (R59). -/
def execCancelBatch (slot : Byte) (s : State) : Host.Outcome State Fault Refusal :=
  takeRequest (.cancelBatch slot) s fun s =>
    ({ s with edit := (cancelBatch s.edit slot).1 }, (cancelBatch s.edit slot).2)

end Sys2Proof.Machine
end

