-- ==== Sys2Proof/WellFormed.lean ====
section
/-!
DEFINITION. Which terms of `Instr` are commands that can reach the part. The requests are judged by the part itself (RANGE,
BAD_LENGTH ...), so all of their operand values are well formed; what is checked here is the shape of the events (log 12).
-/
namespace Sys2Proof

/-- A desk frame carries one sample in each of its 16 slots (R104). -/
def wellFormedFrame (f : List Sample) : Bool := f.length == 16

/-- The operand of SAMPLE_TICK tells of each of the four desk input ports once (R104). -/
def wellFormedDesk (d : List DeskArrival) : Bool :=
  d.length == 4 && d.all fun a => wellFormedFrame a.frame

/-- The frames of the four desk input ports (R185). -/
def wellFormedFrames (fs : List (List Sample)) : Bool :=
  fs.length == 4 && fs.all wellFormedFrame

/-- A line number lies from 0 to 2047 (R115). -/
def wellFormedLine (line : Nat) : Bool := line ≤ 2047

/-- The lead byte of a void transaction is neither 0x52 nor 0x46 (R165). -/
def wellFormedVoid (bytes : List Byte) : Bool :=
  match bytes with
  | []        => true
  | lead :: _ => lead != 0x52#8 && lead != 0x46#8

/-- A counted list has the entries its count byte calls for, and none where the count has no layout (R168, R179). -/
def wellFormedCount {α : Type} (count : Byte) (entries : List α) : Bool :=
  if 1 ≤ count.toNat ∧ count.toNat ≤ Config.pageLimit then entries.length == count.toNat else entries.isEmpty

/-- The kind byte of an edit without a layout is none of the four kinds (R180, R182). -/
def wellFormedEdit (f : EditFields) : Bool :=
  match f with
  | .unknown kind => kind.toNat == 0 || 4 < kind.toNat
  | .create .. | .modify .. | .retire .. | .revert .. => true

/-- Can this command reach the part? -/
def wellFormed (i : Instr) : Bool :=
  match i with
  | .sampleTick desk => wellFormedDesk desk
  | .inputLineEvent _ line _ => wellFormedLine line
  | .voidTransaction bytes => wellFormedVoid bytes
  | .ackNotices count entries => wellFormedCount count entries
  | .ackSources count sources => wellFormedCount count sources
  | .addEdit _ fields => wellFormedEdit fields
  | .deskFrameInProgressCompleted frames => wellFormedFrames frames
  | .refFramePulse | .deviceReset _ | .resetRelease _ | .request _ | .fetch _ | .status | .readRoute _ | .findDest _
  | .listSource _ _ | .clearClip _ | .readNotices _ | .setGuards _ | .clearAll _ | .readMeters _ _ _ | .openBatch
  | .armBatch _ _ _ _ | .readResult _ | .releaseBatch _ | .cancelBatch _ | .readSource _ _ | .setMonitor _ _ _ _ _
  | .setChangeEnables _ | .readSourceChanges _ | .setDesk _ _ _ | .readLane _ _ | .setLane _ _ _ _ _ _ | .restartLane _
  | .ackLanes _ | .pollAlert | .ackAlert _ | .setAlert _ _ _ _ _ | .clearAllExecute | .batchApply | .failoverTrigger _ _
  | .rampEnd _ | .retireRampEnd _ | .sourceRunning _ | .closeMarkTaken _ | .lossTimerExpiry _ | .presenceTimeout _
  | .pulseEnd | .quietEntered _ | .batchDue _ | .setLaneInForce _ | .closePacketGrant _ _ => true

end Sys2Proof
end

