-- ==== Sys2Proof/Machine/Events.lean ====
section
/-!
DEFINITION. The events that reach the part from outside, but for the SPI transactions: the sample tick, the reference pulse, the
line event, RESET_N (chapters 1, 7, 10, 12).
-/
namespace Sys2Proof.Machine

/-- SAMPLE_TICK (R6, R28). -/
def execSampleTick (desk : List DeskArrival) (s : State) : Host.Outcome State Fault Refusal :=
  takeWellFormed (wellFormedDesk desk) s (tick desk)

/-- REF_FRAME_PULSE (R7, R8). -/
def execRefFramePulse (s : State) : Host.Outcome State Fault Refusal :=
  takeEvent s referencePulse

/-- INPUT_LINE_EVENT (R115, R116). -/
def execInputLineEvent (lane : Fin 8) (line : Nat) (words : List Word) (s : State) : Host.Outcome State Fault Refusal :=
  takeWellFormed (wellFormedLine line) s (lineEvent lane line words)

/-- DEVICE_RESET (R175): a low level of the recognised time resets every block; a shorter one does so or does nothing, by a free
value (log 7). -/
def execDeviceReset (recognised : Bool) (s : State) : Host.Outcome State Fault Refusal :=
  .next (if recognised then resetState s else shortReset s)

/-- RESET_RELEASE (R175): the part begins to take events; a transaction whose CS_N is already low is not taken. A rise after a low
level that was not taken as a reset changes nothing. -/
def execResetRelease (csLow : Bool) (s : State) : Host.Outcome State Fault Refusal :=
  .next (if s.rstLow then releaseReset csLow s else s)

end Sys2Proof.Machine
end

