-- ==== Sys2Proof/Machine/InternalEvents.lean ====
section
/-!
DEFINITION. The rows that are a part of a larger event. Inside that event the same operation does them; commanded alone, each does
its part when the condition the spec gives for it holds, and nothing otherwise (log 3).
-/
namespace Sys2Proof.Machine

/-! ## Parts of the sample tick at the Route Table and the Edit Stage -/

/-- Step 1 of a tick by itself (R61, R62). -/
def clearAllStep (s : State) : State :=
  { s with
    route := (carryOutClearAll s.route s.edit).1
    edit  := (carryOutClearAll s.route s.edit).2 }

/-- CLEAR_ALL_EXECUTE (R61, R62). -/
def execClearAllExecute (s : State) : Host.Outcome State Fault Refusal := takeEvent s clearAllStep

/-- Step 2 of a tick by itself (R49). -/
def batchApplyStep (s : State) : State :=
  { s with
    route := (applyDue s.route s.edit).1
    edit  := (applyDue s.route s.edit).2 }

/-- BATCH_APPLY (R49 to R56). -/
def execBatchApply (s : State) : Host.Outcome State Fault Refusal := takeEvent s batchApplyStep

/-- FAILOVER_TRIGGER (R70 to R79): one entry, if it stands in the set. -/
def execFailoverTrigger (source : Fin 192) (kind : TriggerKind) (s : State) : Host.Outcome State Fault Refusal :=
  takeEvent s fun s => { s with route := takeTrigger s.monitor.sources source kind s.route }

/-- RAMP_END (R68): the last position of the ramp has been used. -/
def execRampEnd (slot : Fin 160) (s : State) : Host.Outcome State Fault Refusal :=
  takeEvent s fun s => { s with route := rampEndAt s.route slot }

/-- RETIRE_RAMP_END (R69, R26). -/
def execRetireRampEnd (slot : Fin 160) (s : State) : Host.Outcome State Fault Refusal :=
  takeEvent s fun s => { s with route := retireEndAt s.route slot }

/-! ## Parts of the sample tick at the Source Monitor -/

/-- SOURCE_RUNNING (R99): the source's work of a tick, when it brings it to RUNNING. -/
def execSourceRunning (source : Fin 192) (s : State) : Host.Outcome State Fault Refusal :=
  takeEvent s fun s =>
    if isWaiting s.monitor.sources[source] && isPrimed s.monitor.sources[source] then workOne source s else s

/-- CLOSE_MARK_TAKEN (R99, R100, R127): the source's work of a tick, when it takes or discards a close mark. -/
def execCloseMarkTaken (source : Fin 192) (s : State) : Host.Outcome State Fault Refusal :=
  takeEvent s fun s =>
    if (sourceWork s.monitor.settings s.monitor.sources[source]).becameIdle then workOne source s else s

/-- LOSS_TIMER_EXPIRY (R101): the source's work of a tick, when its loss timer reaches 0. -/
def execLossTimerExpiry (source : Fin 192) (s : State) : Host.Outcome State Fault Refusal :=
  takeEvent s fun s =>
    if (sourceWork s.monitor.settings s.monitor.sources[source]).enteredLost then workOne source s else s

/-! ## Parts of the sample tick at the Lane Engines and the Alert Controller -/

/-- PRESENCE_TIMEOUT (R117): the tick that brings the count to 240. -/
def execPresenceTimeout (lane : Fin 8) (s : State) : Host.Outcome State Fault Refusal :=
  takeEvent s fun s => { s with lanes := bankModify s.lanes lane presenceTimeout }

/-- PULSE_END (R159): the tick that brings the pulse count to 0. -/
def execPulseEnd (s : State) : Host.Outcome State Fault Refusal :=
  takeEvent s fun s => { s with alert := pulseEnd s.alert }

/-! ## Parts of the reference pulse and of the line event -/

/-- QUIET_ENTERED (R94): the assessment of the source, when it sets QUIET. -/
def execQuietEntered (source : Fin 192) (s : State) : Host.Outcome State Fault Refusal :=
  takeEvent s (enterQuiet source)

/-- BATCH_DUE (R10): the switch point that brings the remaining count to 0. -/
def execBatchDue (slot : Fin 4) (s : State) : Host.Outcome State Fault Refusal :=
  takeEvent s fun s => { s with edit := { s.edit with slots := bankModify s.edit.slots slot becomeDue } }

/-- SET_LANE_IN_FORCE (R131, R148). -/
def execSetLaneInForce (lane : Fin 8) (s : State) : Host.Outcome State Fault Refusal :=
  takeEvent s fun s => { s with lanes := bankModify s.lanes lane bringSettings }

/-- CLOSE_PACKET_GRANT (R138, R144; log 16). -/
def execClosePacketGrant (lane bundle : Fin 8) (s : State) : Host.Outcome State Fault Refusal :=
  takeEvent s fun s => { s with lanes := bankModify s.lanes lane fun l => closeTurn l bundle }

/-! ## WCLK stopped -/

/-- DESK_FRAME_IN_PROGRESS_COMPLETED (R13, R152, R185). -/
def execDeskFrameInProgressCompleted (frames : List (List Sample)) (s : State) : Host.Outcome State Fault Refusal :=
  takeWellFormed (wellFormedFrames frames) s fun s => { s with desk := completeDeskFrames frames s.desk }

end Sys2Proof.Machine
end

