-- ==== Sys2Proof/Machine/LaneCommands.lean ====
section
/-!
DEFINITION. The requests the Lane Engines take (R118, R130 to R132, R149).
-/
namespace Sys2Proof.Machine

/-- The counters of a lane cleared: four receive counters, eight gap counters, eight overflow counters (R130). -/
def clearLaneCounters (l : Lane) : Lane :=
  { l with
    excess := 0, truncated := 0, checkError := 0, malformed := 0
    inBundles  := bankMap (fun b => { b with gap := 0 }) l.inBundles
    outBundles := bankMap (fun b => { b with overflow := 0 }) l.outBundles }

/-- READ_LANE at the lane: the image first, then the clear (R130). -/
def readLane (lanes : Vector Lane 8) (lane : Byte) (clear : Bool) : Vector Lane 8 × Response :=
  match toIndex 8 lane.toNat with
  | none   => (lanes, statusOnly .range)
  | some n => (if clear then bankModify lanes n clearLaneCounters else lanes, okWith (laneImage lanes[n]))

/-- READ_LANE (R130). -/
def execReadLane (lane : Byte) (clear : Bool) (s : State) : Host.Outcome State Fault Refusal :=
  takeRequest (.readLane lane clear) s fun s =>
    ({ s with lanes := (readLane s.lanes lane clear).1 }, (readLane s.lanes lane clear).2)

/-- SET_LANE at the lane: the five values become the pending settings (R131). -/
def setLane (lanes : Vector Lane 8) (lane : Byte) (switchLine : Word) (keepMask budget mode lowest : Byte) :
    Vector Lane 8 × Response :=
  match toIndex 8 lane.toNat, decodeLaneSettings switchLine keepMask budget mode lowest with
  | some n, some st =>
    (bankModify lanes n fun l => { l with pendingSettings := some st }, okWith (laneSettingsBytes st))
  | _, _ => (lanes, statusOnly .range)

/-- SET_LANE (R131). -/
def execSetLane (lane : Byte) (switchLine : Word) (keepMask budget mode lowest : Byte) (s : State) :
    Host.Outcome State Fault Refusal :=
  takeRequest (.setLane lane switchLine keepMask budget mode lowest) s fun s =>
    ({ s with lanes := (setLane s.lanes lane switchLine keepMask budget mode lowest).1 },
      (setLane s.lanes lane switchLine keepMask budget mode lowest).2)

/-- Is the source one of the lane's 16? (R1) -/
def ofLane (n : Fin 8) (i : Fin 192) : Bool := i.val / 16 == n.val

/-- The sources with those of a lane made IDLE (R106, R132). -/
def idleLaneSources (m : SourceMonitor) (n : Fin 8) : SourceMonitor :=
  { m with sources := bankMapIdx (fun i src => if ofLane n i then makeIdle src else src) m.sources }

/-- A lane restarted: receive side, sources, transmit side (R132, R149). -/
def restartLane (s : State) (n : Fin 8) : State :=
  { s with
    lanes   := bankModify s.lanes n fun l => restartTransmit s.route n (restartReceive l)
    monitor := idleLaneSources s.monitor n }

/-- RESTART_LANE at its blocks (R132). -/
def restartLaneNumbered (s : State) (lane : Byte) : State × Response :=
  match toIndex 8 lane.toNat with
  | none   => (s, statusOnly .range)
  | some n => (restartLane s n, okWith [])

/-- RESTART_LANE (R132). -/
def execRestartLane (lane : Byte) (s : State) : Host.Outcome State Fault Refusal :=
  takeRequest (.restartLane lane) s fun s => restartLaneNumbered s lane

/-- The change flags of the lanes named in a mask cleared (R118). -/
def clearLaneFlags (lanes : Vector Lane 8) (mask : Byte) : Vector Lane 8 :=
  bankMapIdx (fun n l => if mask.getLsbD n.val then { l with changeFlag := false } else l) lanes

/-- ACK_LANES (R118): the flags as they now stand are returned. -/
def execAckLanes (mask : Byte) (s : State) : Host.Outcome State Fault Refusal :=
  takeRequest (.ackLanes mask) s fun s =>
    ({ s with lanes := clearLaneFlags s.lanes mask }, okWith [laneFlags (clearLaneFlags s.lanes mask)])

end Sys2Proof.Machine
end

