-- ==== Sys2Proof/Machine/RouteCommands.lean ====
section
/-!
DEFINITION. The requests the Route Table takes, STATUS and READ_METERS (R31, R33 to R39, R60, R92, R174).
-/
namespace Sys2Proof.Machine

/-- STATUS (R173, R174). -/
def execStatus (s : State) : Host.Outcome State Fault Refusal :=
  takeRequest .status s fun s => ({ s with link := { s.link with fresh := false } }, okWith (statusBlock s))

/-- The answer to a lookup or clear whose handle is not valid (R22). -/
def handleRefusal (c : HandleCheck) : Response :=
  match c with
  | .range     => statusOnly .range
  | .stale     => statusOnly .stale
  | .valid _ _ => okWith []

/-- The answer of READ_ROUTE (R34). -/
def readRoute (rt : RouteTable) (h : Handle) : Response :=
  match checkHandle rt h with
  | .valid _ r => okWith (recordImage h r)
  | c => handleRefusal c

/-- READ_ROUTE (R34). -/
def execReadRoute (handle : Handle) (s : State) : Host.Outcome State Fault Refusal :=
  takeRead (.readRoute handle) s fun s => readRoute s.route handle

/-- The answer of FIND_DEST (R35). -/
def findDest (rt : RouteTable) (dest : Byte) : Response :=
  match toIndex 192 dest.toNat with
  | none   => statusOnly .range
  | some d =>
    match rt.destMap[d] with
    | some i => okWith (wordBytes (makeHandle rt.slots[i].gen i))
    | none   => statusOnly .none

/-- FIND_DEST (R35). -/
def execFindDest (dest : Byte) (s : State) : Host.Outcome State Fault Refusal :=
  takeRead (.findDest dest) s fun s => findDest s.route dest

/-- Does the current, the fading or the next leg of a record read the source? (R36) -/
def readsSource (r : Record) (src : LegSource) : Bool :=
  r.current.source == src || ((rampOf r).map (·.fading.source)) == some src ||
    ((nextLegOf r).map (·.source)) == some src

/-- What LIST_SOURCE collects of a slot: the handle (R36). -/
def listedHandle (rt : RouteTable) (src : LegSource) (i : Fin 160) : Option (List Byte) :=
  match rt.slots[i].record with
  | some r => if readsSource r src then some (wordBytes (makeHandle rt.slots[i].gen i)) else none
  | none   => none

/-- The answer of LIST_SOURCE (R36). -/
def listSource (rt : RouteTable) (source start : Byte) : Response :=
  match decodeLegSource source, toIndex 160 start.toNat with
  | some src, some st => okWith (pageBytes (pageFrom (listedHandle rt src) st))
  | _, _ => statusOnly .range

/-- LIST_SOURCE (R36). -/
def execListSource (source start : Byte) (s : State) : Host.Outcome State Fault Refusal :=
  takeRead (.listSource source start) s fun s => listSource s.route source start

/-- CLEAR_CLIP at the table: the flag as it was is returned (R37). -/
def clearClip (rt : RouteTable) (h : Handle) : RouteTable × Response :=
  match checkHandle rt h with
  | .valid i r => (setRecord rt i { r with clip := false }, okWith [flagByte r.clip])
  | c => (rt, handleRefusal c)

/-- CLEAR_CLIP (R37). -/
def execClearClip (handle : Handle) (s : State) : Host.Outcome State Fault Refusal :=
  takeRequest (.clearClip handle) s fun s =>
    ({ s with route := (clearClip s.route handle).1 }, (clearClip s.route handle).2)

/-- What READ_NOTICES collects of a slot: the handle and the notices byte (R38). -/
def listedNotices (rt : RouteTable) (i : Fin 160) : Option (List Byte) :=
  match rt.slots[i].record with
  | some r =>
    if hasNotice r.notices then some (wordBytes (makeHandle rt.slots[i].gen i) ++ [noticesByte r.notices]) else none
  | none => none

/-- The answer of READ_NOTICES (R38). -/
def readNotices (rt : RouteTable) (start : Byte) : Response :=
  match toIndex 160 start.toNat with
  | some st => okWith (pageBytes (pageFrom (listedNotices rt) st))
  | none    => statusOnly .range

/-- READ_NOTICES (R38). -/
def execReadNotices (start : Byte) (s : State) : Host.Outcome State Fault Refusal :=
  takeRead (.readNotices start) s fun s => readNotices s.route start

/-- The notices left when a mask is cleared; bits that name no notice are ignored (R39, R179). -/
def clearNotices (n : Notices) (mask : Byte) : Notices where
  failoverTaken  := n.failoverTaken && !mask.getLsbD 0
  backupUnusable := n.backupUnusable && !mask.getLsbD 1
  backupLost     := n.backupLost && !mask.getLsbD 2

/-- One entry of ACK_NOTICES with the code it records (R39). -/
def ackNotice (rt : RouteTable) (a : NoticeAck) : RouteTable × Status :=
  match checkHandle rt a.handle with
  | .valid i r => (setRecord rt i { r with notices := clearNotices r.notices a.mask }, .ok)
  | .range     => (rt, .range)
  | .stale     => (rt, .stale)

/-- The entries of ACK_NOTICES in list order, with their codes (R39). -/
def ackNoticeList (rt : RouteTable) (entries : List NoticeAck) : RouteTable × List Byte :=
  match entries with
  | [] => (rt, [])
  | a :: rest =>
    let w := ackNoticeList (ackNotice rt a).1 rest
    (w.1, statusCode (ackNotice rt a).2 :: w.2)

/-- ACK_NOTICES at the table: a count of 0 or over 32 clears nothing (R39). -/
def ackNotices (rt : RouteTable) (count : Byte) (entries : List NoticeAck) : RouteTable × Response :=
  if countHasLayout count then ((ackNoticeList rt entries).1, okWith (ackNoticeList rt entries).2)
  else (rt, statusOnly .range)

/-- ACK_NOTICES (R39). -/
def execAckNotices (count : Byte) (entries : List NoticeAck) (s : State) : Host.Outcome State Fault Refusal :=
  takeRequest (.ackNotices count entries) s fun s =>
    ({ s with route := (ackNotices s.route count entries).1 }, (ackNotices s.route count entries).2)

/-- SET_GUARDS at the table: a bit above 11 refuses it (R31, R179). -/
def setGuards (rt : RouteTable) (mask : Word) : RouteTable × Response :=
  if mask.toNat < 4096 then
    ({ rt with guards := mask.setWidth 12 }, okWith (guardBytes (mask.setWidth 12)))
  else (rt, statusOnly .range)

/-- SET_GUARDS (R31). -/
def execSetGuards (mask : Word) (s : State) : Host.Outcome State Fault Refusal :=
  takeRequest (.setGuards mask) s fun s =>
    ({ s with route := (setGuards s.route mask).1 }, (setGuards s.route mask).2)

/-- CLEAR_ALL at the table: it becomes pending, with force if this or the pending one has it (R60). -/
def askClearAll (rt : RouteTable) (force : Bool) : RouteTable :=
  { rt with clearAll := some (force || rt.clearAll.getD false) }

/-- CLEAR_ALL (R60). -/
def execClearAll (force : Bool) (s : State) : Host.Outcome State Fault Refusal :=
  takeRequest (.clearAll force) s fun s => ({ s with route := askClearAll s.route force }, okWith [])

/-- A run of meters as pairs. -/
def meterRun (meters : List Meter) (first count : Nat) : List Byte :=
  ((meters.drop first).take count).flatMap meterPair

/-- The answer of READ_METERS: side 0 SOURCE, 1 DEST (R92, R180). -/
def readMeters (s : State) (side first count : Byte) : Response :=
  if 192 ≤ first.toNat ∨ count.toNat = 0 ∨ 48 < count.toNat ∨ 192 < first.toNat + count.toNat then statusOnly .range
  else if side = 0#8 then
    okWith (meterRun (s.monitor.sources.toList.map (·.meter)) first.toNat count.toNat)
  else if side = 1#8 then okWith (meterRun s.route.destMeters.toList first.toNat count.toNat)
  else statusOnly .range

/-- READ_METERS (R92). -/
def execReadMeters (side first count : Byte) (s : State) : Host.Outcome State Fault Refusal :=
  takeRead (.readMeters side first count) s fun s => readMeters s side first count

end Sys2Proof.Machine
end

