-- ==== Sys2Proof/Machine/SourceCommands.lean ====
section
/-!
DEFINITION. The requests the Source Monitor and the Desk Ports take (R105, R106, R108, R109, R111 to R113).
-/
namespace Sys2Proof.Machine

/-- The counters of a source cleared (R108). -/
def clearSourceCounters (src : Source) : Source := { src with underrun := 0, overrun := 0 }

/-- READ_SOURCE at the Source Monitor: the image first, then the clear (R108). -/
def readSource (m : SourceMonitor) (source : Byte) (clear : Bool) : SourceMonitor × Response :=
  match toIndex 192 source.toNat with
  | none   => (m, statusOnly .range)
  | some n =>
    (if clear then { m with sources := bankModify m.sources n clearSourceCounters } else m,
      okWith (sourceImage m.sources[n]))

/-- READ_SOURCE (R108). -/
def execReadSource (source : Byte) (clear : Bool) (s : State) : Host.Outcome State Fault Refusal :=
  takeRequest (.readSource source clear) s fun s =>
    ({ s with monitor := (readSource s.monitor source clear).1 }, (readSource s.monitor source clear).2)

/-- SET_MONITOR at the Source Monitor: five settings or none (R109). -/
def setMonitor (m : SourceMonitor) (lossTime q f lostEdges quietEdges : Byte) : SourceMonitor × Response :=
  match decodeSettings lossTime q f lostEdges quietEdges with
  | some st => ({ m with settings := st }, okWith (settingsBytes st))
  | none    => (m, statusOnly .range)

/-- SET_MONITOR (R109). -/
def execSetMonitor (lossTime q f lostEdges quietEdges : Byte) (s : State) : Host.Outcome State Fault Refusal :=
  takeRequest (.setMonitor lossTime q f lostEdges quietEdges) s fun s =>
    ({ s with monitor := (setMonitor s.monitor lossTime q f lostEdges quietEdges).1 },
      (setMonitor s.monitor lossTime q f lostEdges quietEdges).2)

/-- The sources with their change enables replaced (R111). -/
def setEnables (m : SourceMonitor) (enables : BitVec 192) : SourceMonitor :=
  { m with sources := bankMapIdx (fun n src => { src with changeEnable := enables.getLsbD n.val }) m.sources }

/-- SET_CHANGE_ENABLES (R111): the enables now in force are returned. -/
def execSetChangeEnables (enables : BitVec 192) (s : State) : Host.Outcome State Fault Refusal :=
  takeRequest (.setChangeEnables enables) s fun s =>
    ({ s with monitor := setEnables s.monitor enables },
      okWith (enableBytes (enablesInForce (setEnables s.monitor enables).sources)))

/-- What READ_SOURCE_CHANGES collects of a source (R112). -/
def listedChange (sources : Vector Source 192) (n : Fin 192) : Option (List Byte) :=
  if sources[n].changeFlag then
    some [oneByte n.val, sourceStateCode sources[n].state, flagByte sources[n].quiet]
  else none

/-- The answer of READ_SOURCE_CHANGES (R112). -/
def readSourceChanges (m : SourceMonitor) (start : Byte) : Response :=
  match toIndex 192 start.toNat with
  | some st => okWith (pageBytes (pageFrom (listedChange m.sources) st))
  | none    => statusOnly .range

/-- READ_SOURCE_CHANGES (R112). -/
def execReadSourceChanges (start : Byte) (s : State) : Host.Outcome State Fault Refusal :=
  takeRead (.readSourceChanges start) s fun s => readSourceChanges s.monitor start

/-- The listed change flags cleared (R113). -/
def clearChangeFlags (m : SourceMonitor) (sources : List Byte) : SourceMonitor :=
  { m with
    sources :=
      bankMapIdx
        (fun n src => if sources.contains (oneByte n.val) then { src with changeFlag := false } else src) m.sources }

/-- ACK_SOURCES at the Source Monitor: 1 to 32 sources, each below 192, or nothing (R113). -/
def ackSources (m : SourceMonitor) (count : Byte) (sources : List Byte) : SourceMonitor × Response :=
  if countHasLayout count && sources.all fun b => b.toNat < 192 then (clearChangeFlags m sources, okWith [])
  else (m, statusOnly .range)

/-- ACK_SOURCES (R113). -/
def execAckSources (count : Byte) (sources : List Byte) (s : State) : Host.Outcome State Fault Refusal :=
  takeRequest (.ackSources count sources) s fun s =>
    ({ s with monitor := (ackSources s.monitor count sources).1 }, (ackSources s.monitor count sources).2)

/-- The sources with the 16 of a desk input port made IDLE (R106). -/
def idleDeskSources (m : SourceMonitor) (p : Fin 4) : SourceMonitor :=
  { m with sources := bankMapIdx (fun n src => if deskPortOf n = some p then makeIdle src else src) m.sources }

/-- An input port enabled: it pushes from the first frame begun after the request (R104, R105). Disabled: it pushes no more and
the frame it shifts in or holds is discarded (R105, R185). -/
def enableIn (port : DeskIn) (enable : Bool) : DeskIn :=
  if port.enabled = enable then port else ⟨enable, .nothing⟩

/-- SET_DESK on an input port: one that is turned off makes its 16 sources IDLE; an enable of the value it has changes nothing
(R105). -/
def setDeskIn (s : State) (p : Fin 4) (enable : Bool) : State :=
  { s with
    desk    := { s.desk with ins := bankModify s.desk.ins p fun port => enableIn port enable }
    monitor := if s.desk.ins[p].enabled && !enable then idleDeskSources s.monitor p else s.monitor }

/-- SET_DESK on an output port: the frames begun after it follow it (R153). -/
def setDeskOut (s : State) (p : Fin 4) (enable : Bool) : State :=
  { s with desk := { s.desk with outs := bankModify s.desk.outs p fun port => { port with enabled := enable } } }

/-- SET_DESK at its blocks: direction 0 IN, 1 OUT (R105, R180). -/
def setDesk (s : State) (direction port : Byte) (enable : Bool) : State × Response :=
  match toIndex 4 port.toNat with
  | none => (s, statusOnly .range)
  | some p =>
    if direction = 0#8 then (setDeskIn s p enable, okWith [deskEnables (setDeskIn s p enable).desk])
    else if direction = 1#8 then (setDeskOut s p enable, okWith [deskEnables (setDeskOut s p enable).desk])
    else (s, statusOnly .range)

/-- SET_DESK (R105, R153). -/
def execSetDesk (direction port : Byte) (enable : Bool) (s : State) : Host.Outcome State Fault Refusal :=
  takeRequest (.setDesk direction port enable) s fun s => setDesk s direction port enable

end Sys2Proof.Machine
end

