-- ==== Sys2Proof/Machine/Transactions.lean ====
section
/-!
DEFINITION. The SPI transactions (chapter 10).
-/
namespace Sys2Proof.Machine

/-- REQUEST (R167, R168). -/
def execRequest (bytes : List Byte) (s : State) : Host.Outcome State Fault Refusal :=
  takeEvent s (requestTransaction bytes)

/-- FETCH (R170 to R172). -/
def execFetch (clocked : Nat) (s : State) : Host.Outcome State Fault Refusal :=
  takeEvent s (fetchTransaction clocked)

/-- VOID_TRANSACTION (R165). -/
def execVoidTransaction (bytes : List Byte) (s : State) : Host.Outcome State Fault Refusal :=
  takeWellFormed (wellFormedVoid bytes) s (voidTransaction bytes)

end Sys2Proof.Machine
end

