-- ==== Sys2Proof/Machine/Dispatch.lean ====
section
/-!
DEFINITION. exec: what each command of the table does to the state, one arm a row, each a direct call of its meaning.
-/
namespace Sys2Proof.Machine

/-- The effect of one command on everything but the queue. -/
def exec (i : Instr) (s : State) : Host.Outcome State Fault Refusal :=
  match i with
  | .sampleTick desk => Sys2Proof.Machine.execSampleTick desk s
  | .refFramePulse => Sys2Proof.Machine.execRefFramePulse s
  | .inputLineEvent lane line words => Sys2Proof.Machine.execInputLineEvent lane line words s
  | .deviceReset recognised => Sys2Proof.Machine.execDeviceReset recognised s
  | .resetRelease csLow => Sys2Proof.Machine.execResetRelease csLow s
  | .request bytes => Sys2Proof.Machine.execRequest bytes s
  | .fetch clocked => Sys2Proof.Machine.execFetch clocked s
  | .voidTransaction bytes => Sys2Proof.Machine.execVoidTransaction bytes s
  | .status => Sys2Proof.Machine.execStatus s
  | .readRoute handle => Sys2Proof.Machine.execReadRoute handle s
  | .findDest dest => Sys2Proof.Machine.execFindDest dest s
  | .listSource source start => Sys2Proof.Machine.execListSource source start s
  | .clearClip handle => Sys2Proof.Machine.execClearClip handle s
  | .readNotices start => Sys2Proof.Machine.execReadNotices start s
  | .ackNotices count entries => Sys2Proof.Machine.execAckNotices count entries s
  | .setGuards mask => Sys2Proof.Machine.execSetGuards mask s
  | .clearAll force => Sys2Proof.Machine.execClearAll force s
  | .readMeters side first count => Sys2Proof.Machine.execReadMeters side first count s
  | .openBatch => Sys2Proof.Machine.execOpenBatch s
  | .addEdit slot fields => Sys2Proof.Machine.execAddEdit slot fields s
  | .armBatch slot timing frames mode => Sys2Proof.Machine.execArmBatch slot timing frames mode s
  | .readResult slot => Sys2Proof.Machine.execReadResult slot s
  | .releaseBatch slot => Sys2Proof.Machine.execReleaseBatch slot s
  | .cancelBatch slot => Sys2Proof.Machine.execCancelBatch slot s
  | .readSource source clear => Sys2Proof.Machine.execReadSource source clear s
  | .setMonitor lossTime q f lostEdges quietEdges => Sys2Proof.Machine.execSetMonitor lossTime q f lostEdges quietEdges s
  | .setChangeEnables enables => Sys2Proof.Machine.execSetChangeEnables enables s
  | .readSourceChanges start => Sys2Proof.Machine.execReadSourceChanges start s
  | .ackSources count sources => Sys2Proof.Machine.execAckSources count sources s
  | .setDesk direction port enable => Sys2Proof.Machine.execSetDesk direction port enable s
  | .readLane lane clear => Sys2Proof.Machine.execReadLane lane clear s
  | .setLane lane switchLine keepMask budget mode lowest => Sys2Proof.Machine.execSetLane lane switchLine keepMask budget mode lowest s
  | .restartLane lane => Sys2Proof.Machine.execRestartLane lane s
  | .ackLanes mask => Sys2Proof.Machine.execAckLanes mask s
  | .pollAlert => Sys2Proof.Machine.execPollAlert s
  | .ackAlert cls => Sys2Proof.Machine.execAckAlert cls s
  | .setAlert masks mode lowest style width => Sys2Proof.Machine.execSetAlert masks mode lowest style width s
  | .clearAllExecute => Sys2Proof.Machine.execClearAllExecute s
  | .batchApply => Sys2Proof.Machine.execBatchApply s
  | .failoverTrigger source kind => Sys2Proof.Machine.execFailoverTrigger source kind s
  | .rampEnd slot => Sys2Proof.Machine.execRampEnd slot s
  | .retireRampEnd slot => Sys2Proof.Machine.execRetireRampEnd slot s
  | .sourceRunning source => Sys2Proof.Machine.execSourceRunning source s
  | .closeMarkTaken source => Sys2Proof.Machine.execCloseMarkTaken source s
  | .lossTimerExpiry source => Sys2Proof.Machine.execLossTimerExpiry source s
  | .presenceTimeout lane => Sys2Proof.Machine.execPresenceTimeout lane s
  | .pulseEnd => Sys2Proof.Machine.execPulseEnd s
  | .quietEntered source => Sys2Proof.Machine.execQuietEntered source s
  | .batchDue slot => Sys2Proof.Machine.execBatchDue slot s
  | .setLaneInForce lane => Sys2Proof.Machine.execSetLaneInForce lane s
  | .closePacketGrant lane bundle => Sys2Proof.Machine.execClosePacketGrant lane bundle s
  | .deskFrameInProgressCompleted frames => Sys2Proof.Machine.execDeskFrameInProgressCompleted frames s

end Sys2Proof.Machine
end

