-- ==== Sys2Proof/Machine/Step.lean ====
section
/-!
DEFINITION. One step of the part: the command at the front of the queue is taken. On an empty queue the part idles: nothing
in it changes without an event (R13; log 2).
-/
namespace Sys2Proof.Machine

/-- One step: take the front command with the queue's rest, or idle. -/
def step (s : State) : Host.Outcome State Fault Refusal :=
  match s.pending with
  | []        => .next s
  | i :: rest => exec i { s with pending := rest }

/-- `s` with the command a table word spells at the front of its queue (log 24). -/
def State.withFetchWord (s : State) (nbits w : Nat) : State :=
  match decodeTableWord nbits w with
  | some i => { s with pending := i :: s.pending }
  | none   => s

end Sys2Proof.Machine
end

