-- ==== Sys2Proof/Safety.lean ====
section
/-!
DEFINITION. What a sound state of the part is, block by block, in the terms the claims use: the facts that the spec says hold at
every moment. `Inv` joins them. After them stand the small words the claims use beside the model's own.
-/
namespace Sys2Proof.Machine

/-! ## Route Table -/

/-- A ramp that runs: R is one of the lengths of codes 1 to 7, k lies from 0 to R − 1, and the fading leg is no retire leg
(R16, R17, R64). -/
abbrev RampOk (ramp : Ramp) : Prop :=
  (∃ c : Fin 8, c.val ≠ 0 ∧ ramp.length = rampLength c) ∧ ramp.position < ramp.length ∧ ramp.fading.retire = false

/-- A leg that carries the retire mark reads SILENCE (R17, R52). -/
abbrev LegOk (leg : Leg) : Prop := leg.retire = true → leg.source = .silence

/-- The legs of a record follow its state (R17). -/
def PhaseOk (current : Leg) (p : Phase) : Prop :=
  match p with
  | .live               => current.retire = false
  | .ramping ramp none  => current.retire = false ∧ RampOk ramp
  | .ramping ramp (some next) => current.retire = false ∧ RampOk ramp ∧ LegOk next
  | .retiring ramp      => current.retire = true ∧ current.source = .silence ∧ RampOk ramp

/-- A sound record: its legs, and on-backup only with a backup part (R17, R18). -/
abbrev RecordOk (r : Record) : Prop := PhaseOk r.current r.phase ∧ (r.onBackup = true → r.backup.isSome = true)

/-- A sound slot: a generation of 1 to 255 and, unless FREE, a sound record (R16). -/
def SlotOk (sl : RecordSlot) : Prop :=
  sl.gen ≠ 0#8 ∧
    match sl.record with
    | none   => True
    | some r => RecordOk r

/-- A map entry is right: the slot it names holds the record that drives the destination (R29). -/
def EntryOk (rt : RouteTable) (d : Fin 192) : Prop :=
  match rt.destMap[d] with
  | none   => True
  | some i => (rt.slots[i].record.map (·.dest)) = some d

/-- A record is named by the map entry of its destination (R29). -/
def NamedOk (rt : RouteTable) (i : Fin 160) : Prop :=
  match rt.slots[i].record with
  | none   => True
  | some r => rt.destMap[r.dest] = some i

/-- A sound meter: peaks from 0 to 8388607, the level code that of the frame peak (R90, R91). -/
abbrev MeterOk (m : Meter) : Prop := m.running ≤ 8388607 ∧ m.peak ≤ 8388607 ∧ m.level = levelCode m.peak

/-- A sound Route Table. -/
structure RouteOk (rt : RouteTable) : Prop where
  slots  : ∀ i : Fin 160, SlotOk rt.slots[i]
  mapped : ∀ d : Fin 192, EntryOk rt d
  named  : ∀ i : Fin 160, NamedOk rt i
  meters : ∀ d : Fin 192, MeterOk rt.destMeters[d]

/-! ## Edit Stage -/

/-- A sound edit list: at most 16 edits, no two of one destination (R44). -/
abbrev ListOk (edits : List ListedEdit) : Prop := edits.length ≤ Config.editLimit ∧ (edits.map (·.dest)).Nodup

/-- A sound timing entry: a count of 0 to 16, due exactly at 0; IMMEDIATE is due (R10, R12). -/
abbrev TimingOk (t : Timing) : Prop :=
  t.remaining ≤ 16 ∧ (t.due = true ↔ t.remaining = 0) ∧ (t.source = .immediate → t.due = true)

/-- A sound batch slot (R41, R48, R56). -/
def BatchSlotOk (b : BatchSlot) : Prop :=
  match b with
  | .free             => True
  | .opened edits     => ListOk edits
  | .armed edits _ t _ => edits ≠ [] ∧ ListOk edits ∧ TimingOk t
  | .done r           => 1 ≤ r.entries.length ∧ r.entries.length ≤ Config.editLimit

/-- Is the slot ARMED? -/
def isArmed (b : BatchSlot) : Bool :=
  match b with
  | .armed .. => true
  | .free | .opened _ | .done _ => false

/-- A sound Edit Stage: the arming queue holds exactly the ARMED slots, each once, and at most one slot is OPEN (R41 to R43). -/
structure EditOk (es : EditStage) : Prop where
  slots   : ∀ i : Fin 4, BatchSlotOk es.slots[i]
  queued  : ∀ i : Fin 4, i ∈ es.queue ↔ isArmed es.slots[i] = true
  once    : es.queue.Nodup
  oneOpen : ∀ i j : Fin 4, isOpened es.slots[i] = true → isOpened es.slots[j] = true → i = j

/-! ## Source Monitor and desk input ports -/

/-- A ring in its one form: at most 4096 samples, no zero at the old end (R98; log 14). -/
abbrev RingOk (ring : List Sample) : Prop := ring.length ≤ Config.ringDepth ∧ ring.getLast? ≠ some 0#24

/-- A sound loss timer: it runs only while STARVED, with a count of 1 to 12240 (R102). -/
def TimerOk (src : Source) : Prop :=
  match src.timer with
  | none   => True
  | some n => src.state = .starved ∧ 1 ≤ n ∧ n ≤ 12240

/-- A sound source (R94 to R98, R102, R107). -/
structure SourceOk (src : Source) : Prop where
  fifo    : src.fifo.length ≤ Config.fifoDepth
  empty   : src.state = .idle → src.fifo = []
  ring    : RingOk src.ring
  timer   : TimerOk src
  quiet   : src.state ≠ .running → src.quiet = false ∧ src.quietCount = 0
  count   : src.quietCount ≤ 255
  underruns : src.underrun ≤ 65535
  overruns : src.overrun ≤ 65535
  meter   : MeterOk src.meter

/-- Sound monitor settings (R109). -/
abbrev SettingsOk (st : MonitorSettings) : Prop :=
  st.lossTime ≤ 255 ∧ 8 ≤ st.quietLevel ∧ st.quietLevel ≤ 23 ∧ 1 ≤ st.quietFrames ∧ st.quietFrames ≤ 255

/-- A sound Source Monitor: desk sources hold no close mark (R96). -/
structure MonitorOk (m : SourceMonitor) : Prop where
  sources  : ∀ n : Fin 192, SourceOk m.sources[n]
  desk     : ∀ n : Fin 192, 128 ≤ n.val → holdsClose m.sources[n] = false
  settings : SettingsOk m.settings

/-- A sound desk input port: one that is disabled has nothing to push, a held frame has its 16 samples (R104, R105, R185). -/
def DeskInOk (port : DeskIn) : Prop :=
  match port.shift with
  | .nothing    => True
  | .shifting   => port.enabled = true
  | .held frame => port.enabled = true ∧ frame.length = 16

/-- Sound desk ports: the sources of a disabled input port are IDLE (R104). -/
structure DeskOk (d : Desk) (m : SourceMonitor) : Prop where
  ins  : ∀ p : Fin 4, DeskInOk d.ins[p]
  idle : ∀ n : Fin 192, ∀ p : Fin 4, deskPortOf n = some p → d.ins[p].enabled = false → m.sources[n].state = .idle

/-! ## Lane Engines -/

/-- Sound lane settings (R131). -/
abbrev LaneSettingsOk (st : LaneSettings) : Prop :=
  1 ≤ st.switchLine ∧ st.switchLine ≤ 2047 ∧ 1 ≤ st.budget ∧ st.budget ≤ 8

/-- A sound output bundle: at most 16 frames, none while INACTIVE (R134, R141). -/
abbrev OutBundleOk (b : OutBundle) : Prop :=
  b.fifo.length ≤ Config.fifoDepth ∧ (b.activity = .inactive → b.fifo = []) ∧ b.overflow ≤ 65535

/-- A presence count stays below 240 (R117). -/
def PresenceOk (p : Presence) : Prop :=
  match p with
  | .absent        => True
  | .present count => count < Config.absenceTicks

/-- A pending SET_LANE is sound. -/
def PendingOk (o : Option LaneSettings) : Prop :=
  match o with
  | none    => True
  | some st => LaneSettingsOk st

/-- An output line holds at most 64 words and at most 8 granted packets (R139). -/
def OutLineOk (o : Option OutLine) : Prop :=
  match o with
  | none   => True
  | some l => packetWords l.packets ≤ Config.blankingWords ∧ l.granted ≤ 8

/-- A sound lane (R117, R129, R131, R134, R147). -/
structure LaneOk (l : Lane) : Prop where
  presence : PresenceOk l.presence
  settings : LaneSettingsOk l.settings
  pending  : PendingOk l.pendingSettings
  counters : l.excess ≤ 65535 ∧ l.truncated ≤ 65535 ∧ l.checkError ≤ 65535 ∧ l.malformed ≤ 65535
  gaps     : ∀ j : Fin 8, l.inBundles[j].gap ≤ 65535
  bundles  : ∀ j : Fin 8, OutBundleOk l.outBundles[j]
  pointer  : l.settings.mode = .fixed → l.pointer = l.settings.lowest
  line     : OutLineOk l.outLine

/-! ## Alert Controller and Control Link -/

/-- A pulse runs in PULSE style only, with a count of 1 to 16; the width is 1, 4 or 16 (R155, R159, R162). -/
def AlertOk (a : AlertController) : Prop :=
  (a.width = 1 ∨ a.width = 4 ∨ a.width = 16) ∧
    match a.pulse with
    | none   => True
    | some c => a.style = .pulse ∧ 1 ≤ c ∧ c ≤ 16

/-- The request slot is empty between transactions, a response holds at most 250 bytes of payload, and a request handed over has a
layout (R166 to R168). -/
def LinkOk (l : Link) : Prop :=
  l.slot = [] ∧
    match l.state with
    | .ready r      => r.payload.length ≤ Config.linkPayload
    | .processing i => wellFormed i = true
    | .idle         => True

/-! ## The part -/

/-- While RESET_N is low every block is in its reset state (R175). -/
abbrev ResetHeld (s : State) : Prop := s.rstLow = true → s = resetState s

/-- A sound state of the part. -/
structure Inv (s : State) : Prop where
  route   : RouteOk s.route
  edit    : EditOk s.edit
  monitor : MonitorOk s.monitor
  desk    : DeskOk s.desk s.monitor
  lanes   : ∀ n : Fin 8, LaneOk s.lanes[n]
  alert   : AlertOk s.alert
  link    : LinkOk s.link
  held    : ResetHeld s

/-! ## After reset -/

/-- A source after reset (R114): IDLE, everything empty, off or 0, the ring all zeros. -/
abbrev SourceAtReset (src : Source) : Prop :=
  src.state = .idle ∧ src.fifo = [] ∧ (∀ d : Fin 4096, readRing src.ring d.val = 0#24) ∧ src.timer = none ∧
    src.quiet = false ∧ src.quietCount = 0 ∧ src.underrun = 0 ∧ src.overrun = 0 ∧ src.meter = ⟨0, 0, 23⟩ ∧
    src.changeFlag = false ∧ src.changeEnable = false

/-- A lane after reset (R133, R151). -/
abbrev LaneAtReset (l : Lane) : Prop :=
  l.presence = .absent ∧ l.changeFlag = false ∧ l.settings = ⟨7, 0#8, 8, .rotate, 7⟩ ∧ l.pendingSettings = none ∧
    l.excess = 0 ∧ l.truncated = 0 ∧ l.checkError = 0 ∧ l.malformed = 0 ∧ (∀ j : Fin 8, l.inBundles[j] = ⟨none, 0⟩) ∧
    (∀ j : Fin 8, l.outBundles[j] = ⟨.inactive, [], 0#8, 0⟩) ∧ l.pointer = 7

/-- Every block in the reset state the spec gives it (R40, R63, R82, R90, R109, R114, R131, R133, R151, R155, R164, R166, R184). -/
structure AtReset (s : State) : Prop where
  slots    : ∀ i : Fin 160, s.route.slots[i] = ⟨1#8, none⟩
  destMap  : ∀ d : Fin 192, s.route.destMap[d] = none
  guards   : s.route.guards = 0#12
  clearAll : s.route.clearAll = none
  triggers : ∀ n : Fin 192, s.route.pendingLost[n] = false ∧ s.route.pendingQuiet[n] = false
  samples  : ∀ d : Fin 192, s.route.destSamples[d] = 0#24 ∧ s.route.destMeters[d] = ⟨0, 0, 23⟩
  batches  : (∀ i : Fin 4, s.edit.slots[i] = .free) ∧ s.edit.queue = [] ∧ s.edit.nextArming = 0#8
  sources  : ∀ n : Fin 192, SourceAtReset s.monitor.sources[n]
  settings : s.monitor.settings = ⟨20, 20, 50, .both, .both⟩
  lanes    : ∀ n : Fin 8, LaneAtReset s.lanes[n]
  desk     : s.desk.clock = false ∧ s.desk.framing = false ∧ (∀ p : Fin 4, s.desk.ins[p].enabled = false) ∧
               (∀ p : Fin 4, s.desk.outs[p].enabled = false ∧ ∀ k : Fin 16, s.desk.outs[p].frame[k] = 0#24)
  alert    : s.alert = ⟨⟨true, true, true, true⟩, ⟨false, false, false, false⟩, .fixed, .batch, .level, 1, none⟩
  link     : s.link.state = .idle ∧ s.link.slot = [] ∧ s.link.fresh = true ∧ s.link.overrun = false ∧ s.link.short = false
  requests : Machine.requests s = ⟨false, false, false, false⟩

/-! ## Words of the claims -/

/-- The commands that are the taking of a request by its owning block (R169, R179). -/
def isRequest (i : Instr) : Bool := (encodeRequest i).isSome

/-- The part takes events, and the request `i` has been handed over to its block (R169). -/
abbrev HandedOver (i : Instr) (s : State) : Prop := s.rstLow = false ∧ s.link.state = .processing i

/-- The part takes events, the link is IDLE, and the next transaction is taken (R165, R175). -/
abbrev LinkFree (s : State) : Prop := s.rstLow = false ∧ s.link.state = .idle ∧ s.link.csHeld = false

/-- The legs of a record: the current leg, the fading leg, the next leg (R17). -/
def legsOf (r : Record) : List Leg :=
  match r.phase with
  | .live                     => [r.current]
  | .ramping ramp none        => [r.current, ramp.fading]
  | .ramping ramp (some next) => [r.current, ramp.fading, next]
  | .retiring ramp            => [r.current, ramp.fading]

/-- A record after the step 5 of several ticks in which nothing else reaches it; none once it is FREE (R67). -/
def advanceTimes (n : Nat) (r : Record) : Option Record :=
  match n with
  | 0     => some r
  | n + 1 => (advanceRecord r).bind (advanceTimes n)

/-- A source after its work of several ticks in which nothing arrives (R98 to R102). -/
def workTimes (st : MonitorSettings) (n : Nat) (src : Source) : Source :=
  match n with
  | 0     => src
  | n + 1 => workTimes st n (sourceWork st src).source

/-- The source waits for entries: PRIMING, STARVED or LOST (R99). -/
abbrev Waits (src : Source) : Prop := src.state = .priming ∨ src.state = .starved ∨ src.state = .lost

/-- The source's own work of a tick takes the head of its FIFO: it is RUNNING, or it waits and 8 entries have gathered (R99, R100). -/
abbrev TakesHead (src : Source) : Prop := src.state = .running ∨ Waits src ∧ 8 ≤ src.fifo.length

/-- The source's feed ends in its own work of a tick: it takes a close mark, or discards its entries up to one, and so becomes IDLE
(R99, R100, R127). -/
abbrev FeedEnds (src : Source) : Prop :=
  TakesHead src ∧ src.fifo.head? = some .closeMark ∨ Waits src ∧ src.fifo.length < 8 ∧ .closeMark ∈ src.fifo

/-- Leaving LOST makes an edge that sets the change flag: the flag's enable is on and the left edge selected (R110). -/
def lostLeft (st : MonitorSettings) (src : Source) : Bool :=
  src.state == .lost && src.changeEnable && st.lostEdges != .enter

/-- Leaving QUIET makes an edge that sets the change flag (R110). -/
def quietLeft (st : MonitorSettings) (src : Source) : Bool :=
  src.quiet && src.changeEnable && st.quietEdges != .enter

/-- A source's own work of a tick, case by case (R98 to R102): `src` as the work finds it, `src'` as it leaves it. -/
structure Worked (st : MonitorSettings) (src src' : Source) : Prop where
  older  : ∀ d, d < 4095 → readRing src'.ring (d + 1) = readRing src.ring d
  meter  : src'.meter = { src.meter with
    running := max src.meter.running (min (readRing src'.ring 0).toInt.natAbs 8388607) }
  silent : src'.state ≠ .running → readRing src'.ring 0 = 0#24
  /-- RUNNING, or become so with 8 entries: the sample at the head is played (R99, R100). -/
  plays  : ∀ x rest, TakesHead src → src.fifo = .sample x :: rest → readRing src'.ring 0 = x ∧
    src' = { src with
      state := .running, fifo := rest, timer := if src.state = .running then src.timer else none
      ring := src'.ring, meter := src'.meter, changeFlag := src.changeFlag || lostLeft st src }
  /-- RUNNING with an empty FIFO: STARVED, with the loss timer loaded (R100, R102). -/
  starts : src.state = .running → src.fifo = [] →
    src' = { src with
      state := .starved, underrun := min (src.underrun + 1) 65535, quiet := false, quietCount := 0
      timer := if st.lossTime = 0 then none else some (st.lossTime * 48)
      ring := src'.ring, meter := src'.meter, changeFlag := src.changeFlag || quietLeft st src }
  /-- The feed ends: IDLE, or PRIMING with the entries behind the oldest close mark (R99, R100). -/
  ends   : ∀ before rest, FeedEnds src → src.fifo = before ++ .closeMark :: rest → .closeMark ∉ before →
    src' = { src with
      state := if rest = [] then .idle else .priming
      fifo := rest, timer := if src.state = .running then src.timer else none
      quiet := if TakesHead src then false else src.quiet
      quietCount := if TakesHead src then 0 else src.quietCount
      ring := src'.ring, meter := src'.meter
      changeFlag := src.changeFlag || lostLeft st src || (decide (TakesHead src) && quietLeft st src) }
  /-- IDLE, and PRIMING or LOST with fewer than 8 entries and no close mark: nothing but the 0 written (R98, R99, R101). -/
  waits  : ¬ TakesHead src → ¬ FeedEnds src → src.state ≠ .starved → src' = { src with ring := src'.ring, meter := src'.meter }
  /-- STARVED, likewise: the underrun is counted, and the timer, if it runs, goes down by one and makes the source LOST at 0 (R101). -/
  starves : ¬ TakesHead src → ¬ FeedEnds src → src.state = .starved →
    (src.timer = none →
      src' = { src with underrun := min (src.underrun + 1) 65535, ring := src'.ring, meter := src'.meter }) ∧
    (∀ c, src.timer = some c → 2 ≤ c →
      src' = { src with
        underrun := min (src.underrun + 1) 65535, timer := some (c - 1), ring := src'.ring, meter := src'.meter }) ∧
    ∀ c, src.timer = some c → c ≤ 1 →
      src' = { src with
        state := .lost, underrun := min (src.underrun + 1) 65535, timer := none, ring := src'.ring, meter := src'.meter
        changeFlag := src.changeFlag || (src.changeEnable && st.lostEdges != .leave) }

/-- The entries a desk input port pushes at a tick at its source of a slot (R104, R185). -/
def deskPushed (port : DeskIn) (arrived : List Sample) (slot : Nat) : List Arrival :=
  match port.shift with
  | .nothing    => []
  | .shifting   => [.sample (arrived.getD slot 0#24)]
  | .held frame => [.sample (frame.getD slot 0#24)]

/-- The source after a tick: its own work with the pushes of its desk port before it or after it, by the operand; a lane source has no
pushes in a tick (R97, R104). -/
def TickedWith (d : Desk) (desk : List DeskArrival) (st : MonitorSettings) (n : Fin 192) (src src' : Source) : Prop :=
  (deskPortOf n = none → Worked st src src') ∧
    ∀ (p : Fin 4) (a : DeskArrival), deskPortOf n = some p → desk[p.val]? = some a →
      let pushed := deskPushed d.ins[p] a.frame ((n.val - 128) % 16)
      if a.pushFirst = true then Worked st (arriveAll src pushed) src'
      else ∃ worked, Worked st src worked ∧ src' = arriveAll worked pushed

/-- One bit fed into the check register, as numbers: shifted, and combined with 0x1021 when its top bit differs from the bit (R121). -/
def checkBit (reg : Nat) (bit : Bool) : Nat :=
  if decide (32768 ≤ reg) = bit then reg * 2 % 65536 else (reg * 2 % 65536) ^^^ 0x1021

/-- The bits of words in the order they are fed: each word from its most significant bit (R121). -/
def bitsOf (words : List Word) : List Bool := words.flatMap fun w => (List.range 16).map fun i => w.getLsbD (15 - i)

/-- The output bundle requests a packet: frames, or the CLOSE of a drained CLOSING bundle (R141). -/
abbrev Requests (b : OutBundle) : Prop := b.fifo ≠ [] ∨ b.activity = .closing

/-- The packet of some frames, SILENT when every sample is 0, else SAMPLE, needs more words than are free (R143). -/
abbrev FramesTooLong (frames : List Frame) (free : Nat) : Prop :=
  free < if frames.all fun f => f.a == 0#24 && f.b == 0#24 then 4 else 4 + 3 * frames.length

/-- No packet can be offered to a requesting bundle: neither a CLOSE nor any n from 1 to 4 of its oldest frames fits (R143). -/
abbrev NothingFits (b : OutBundle) (free : Nat) : Prop :=
  (b.fifo = [] → free < 4) ∧ ∀ c, 1 ≤ c → c ≤ 4 → c ≤ b.fifo.length → FramesTooLong (b.fifo.take c) free

/-- The place of a bundle in the grant order of a pointer, 0 the first: the bundle after the pointer (R142). -/
def grantPlace (pointer j : Fin 8) : Nat := (j.val + 7 - pointer.val) % 8

/-- The place of a class in the cycle SOURCE, ROUTE, LANE, BATCH (R156). -/
def classPlace (c : AlertClass) : Nat :=
  match c with
  | .source => 0
  | .route  => 1
  | .lane   => 2
  | .batch  => 3

/-- The place of a class in the priority order of a pointer, 0 the highest: the classes follow one another from the one after the
pointer (R156). -/
def priorityPlace (pointer c : AlertClass) : Nat := (classPlace c + 3 - classPlace pointer) % 4

/-- The items of a bank from a start upward, with their indices (R36, R38, R112). -/
def itemsFrom {n : Nat} {α : Type} (pick : Fin n → Option α) (start : Fin n) : List (Fin n × α) :=
  ((List.finRange n).filter fun i => start ≤ i).filterMap fun i => (pick i).map fun a => (i, a)

/-- The continue byte of a page of 32: END (255) where fewer were found or the last index of the bank gave the 32nd, else the
index after the 32nd (R36). -/
def continueAfter {n : Nat} {α : Type} (items : List (Fin n × α)) : Byte :=
  match items[31]? with
  | none   => 255#8
  | some x => if x.1.val + 1 = n then 255#8 else BitVec.ofNat 8 (x.1.val + 1)

/-- The payload of a page: how many, the continue byte, the first 32 items. -/
def pagePayload {n : Nat} (items : List (Fin n × List Byte)) : List Byte :=
  [BitVec.ofNat 8 (min items.length 32), continueAfter items] ++ (items.take 32).flatMap (·.2)

/-! ## Outcomes -/

/-- The request is taken: its block leaves `t` and answers `r` (R169); the judgement of the eligible set follows (R157, R159). -/
abbrev TakenWith (i : Instr) (s t : State) (r : Response) : Prop := exec i s = .next (settle s (respond t r))

/-- The request is answered with `r` and nothing else changes. -/
abbrev AnsweredWith (i : Instr) (s : State) (r : Response) : Prop := exec i s = .next (respond s r)

/-- The event is taken and its block leaves `t`; the judgement of the eligible set follows (R157, R159). -/
abbrev DoneWith (i : Instr) (s t : State) : Prop := exec i s = .next (settle s t)

/-- What MISO carries in a FETCH of `n` bytes after the lead byte: the link state byte, the frame of the response, then 0x00
(R165, R170, R178). -/
def frameOnMiso (s : State) (r : Response) (n : Nat) : List Byte :=
  linkStateByte s ::
    (List.range n).map fun k =>
      ([statusCode r.status, flagsByte s, BitVec.ofNat 8 r.payload.length] ++ r.payload).getD k 0#8

/-- The seven bytes of a leg in an image: source (255 is SILENCE), mantissa, boost, delay, ramp code with the retire mark in bit 7
(R179, R181). -/
def legCoded (l : Leg) : List Byte :=
  [match l.source with
    | .track n => BitVec.ofNat 8 n.val
    | .silence => 255#8,
    BitVec.ofNat 8 (l.mantissa.toNat / 256), BitVec.ofNat 8 l.mantissa.toNat, BitVec.ofNat 8 l.boost.val,
    BitVec.ofNat 8 (l.delay.val / 256), BitVec.ofNat 8 l.delay.val,
    BitVec.ofNat 8 (l.code.val + if l.retire then 128 else 0)]

/-- The four bytes of a meter pair: the frame peak and the level code (R92, R183). -/
def meterCoded (m : Meter) : List Byte :=
  [BitVec.ofNat 8 (m.peak / 65536), BitVec.ofNat 8 (m.peak / 256), BitVec.ofNat 8 m.peak, BitVec.ofNat 8 m.level]

/-- The two bytes of a number (R165, R179). -/
def numberCoded (n : Nat) : List Byte := [BitVec.ofNat 8 (n / 256), BitVec.ofNat 8 n]

/-- The seven bytes of a leg in a request: source, mantissa, boost, delay, ramp byte (R181). -/
def legFields (l : RawLeg) : List Byte :=
  [l.source] ++ numberCoded l.mantissa.toNat ++ [l.boost] ++ numberCoded l.delay.toNat ++ [l.ramp]

/-- A meter at a pulse that closes a non-empty window (R91). -/
def MeterLatched (m m' : Meter) : Prop :=
  m'.running = 0 ∧ m'.peak = m.running ∧ (m.running = 0 → m'.level = 23) ∧
    ∀ j, 2 ^ j ≤ m.running → m.running < 2 ^ (j + 1) → m'.level = 22 - j

/-- The good own packets of a bundle among packets, in line order: sequence count and content (R124, R125). -/
def goodPackets (j : Fin 8) (packets : List (List Word)) : List (Byte × Content) :=
  packets.filterMap fun p =>
    match classify p with
    | .good k seq c => if k = j then some (seq, c) else none
    | .foreign | .checkError | .malformed => none

/-- A whole packet as the parser takes it: a non-idle marker, the length word L, L payload words and the check word (R119, R124). -/
abbrev WholePacket (p : List Word) : Prop :=
  ∃ m len body, p = m :: len :: body ∧ m ≠ 0#16 ∧ body.length = len.toNat + 1

/-! ## Handles and leg changes -/

/-- The handle is valid and names the record `r` in the slot `i` (R22). -/
abbrev HandleNames (rt : RouteTable) (h : Handle) (i : Fin 160) (r : Record) : Prop :=
  h.toNat % 256 = i.val ∧ rt.slots[i].record = some r ∧ rt.slots[i].gen.toNat = h.toNat / 256

/-- The slot part of the handle names a slot, and the handle no record in it (R22). -/
abbrev HandleStale (rt : RouteTable) (h : Handle) : Prop :=
  ∃ i : Fin 160, h.toNat % 256 = i.val ∧ (rt.slots[i].record = none ∨ rt.slots[i].gen.toNat ≠ h.toNat / 256)

/-- The destination lies in a guarded port: d ÷ 16 (R3, R31). -/
abbrev Guarded (rt : RouteTable) (d : Fin 192) : Prop := rt.guards.getLsbD (d.val / 16) = true

/-- The record is RETIRING. -/
abbrev Retiring (r : Record) : Prop := ∃ ramp, r.phase = .retiring ramp

/-- Nothing of the table changes but the record in the slot, which is now `r'` (R16). -/
structure SlotHolds (rt rt' : RouteTable) (i : Fin 160) (r' : Record) : Prop where
  slot   : rt'.slots[i] = ⟨rt.slots[i].gen, some r'⟩
  others : ∀ j : Fin 160, j ≠ i → rt'.slots[j] = rt.slots[j]
  rest   : rt' = { rt with slots := rt'.slots }

/-- Nothing of the table changes but that the record of destination `d` in the slot becomes FREE: the map entry is cleared and the
generation advanced, 255 followed by 1 (R23, R26, R29). -/
structure SlotFreed (rt rt' : RouteTable) (i : Fin 160) (d : Fin 192) : Prop where
  slot   : rt'.slots[i] = ⟨if rt.slots[i].gen = 255#8 then 1#8 else rt.slots[i].gen + 1#8, none⟩
  others : ∀ j : Fin 160, j ≠ i → rt'.slots[j] = rt.slots[j]
  entry  : rt'.destMap[d] = none
  map    : ∀ e : Fin 192, e ≠ d → rt'.destMap[e] = rt.destMap[e]
  rest   : rt' = { rt with slots := rt'.slots, destMap := rt'.destMap }

/-- What the bringing in of a leg makes of the record `r` in the slot (R25, R64 to R66). -/
def LegChanged (rt rt' : RouteTable) (i : Fin 160) (r : Record) (leg : Leg) : Prop :=
  match r.phase with
  | .live =>
    if leg.code.val = 0 then
      if leg.retire then SlotFreed rt rt' i r.dest else SlotHolds rt rt' i { r with current := leg }
    else if leg.retire then
      SlotHolds rt rt' i { r with current := leg, phase := .retiring ⟨r.current, 2 ^ (leg.code.val + 4), 0⟩ }
    else SlotHolds rt rt' i { r with current := leg, phase := .ramping ⟨r.current, 2 ^ (leg.code.val + 4), 0⟩ none }
  | .ramping ramp _ => SlotHolds rt rt' i { r with phase := .ramping ramp (some leg) }
  | .retiring _ => rt' = rt

/-- The table after the first edits of a list, each judged on the table the earlier ones left (R49). -/
def tableAfter (rt : RouteTable) (edits : List ListedEdit) : RouteTable :=
  edits.foldl (fun rt e => (applyEdit rt e.edit).table) rt

/-- The table after the due batches of these slots, in this order (R49). -/
def tableAfterSlots (es : EditStage) (rt : RouteTable) (is : List (Fin 4)) : RouteTable :=
  is.foldl
    (fun rt i =>
      match es.slots[i] with
      | .armed edits mode t arming => if t.due then (applyBatch rt edits mode arming).1 else rt
      | .free | .opened _ | .done _ => rt)
    rt

/-- The table on which step 3 of a tick judges: steps 1 and 2 carried out (R28). -/
def tableAtStep3 (s : State) : RouteTable :=
  (applyDue (carryOutClearAll s.route s.edit).1 (carryOutClearAll s.route s.edit).2).1

/-- The table on which step 4 of a tick computes: steps 1 to 3 carried out (R28). -/
def tableAtStep4 (s : State) : RouteTable := takeTriggers s.monitor.sources (tableAtStep3 s)

/-! ## Failover -/

/-- The record is a candidate with the backup part `b`, and an entry taken of either kind, LOST or QUIET, matches it (R72). -/
abbrev FailoverMatch (lost quiet : Fin 192 → Bool) (r : Record) (b : Backup) : Prop :=
  r.backup = some b ∧ r.onBackup = false ∧ ¬ Retiring r ∧ ∃ n : Fin 192, r.primary = .track n ∧ (latestLeg r).source = .track n ∧
    (b.onLost = true ∧ lost n = true ∨ b.onQuiet = true ∧ quiet n = true)

/-- The record reads a backup whose LOST entry is taken (R78). -/
abbrev OnLostBackup (lost : Fin 192 → Bool) (r : Record) : Prop :=
  ¬ Retiring r ∧ r.onBackup = true ∧ ∃ b, r.backup = some b ∧ lost b.source = true

/-- The backup is usable in the source view (R73). -/
abbrev BackupUsable (sources : Vector Source 192) (b : Backup) : Prop :=
  sources[b.source].state = .running ∧ sources[b.source].quiet = false

/-- What step 3 makes of the record `r` when the entries of `lost` and `quiet` are taken together: a matching record takes a usable
backup, on a queued leg (R75) or as a failover leg brought in by the leg-change rule (R74), or is marked BACKUP_UNUSABLE (R76); one on
a lost backup is marked BACKUP_LOST (R78); every other is unchanged. -/
structure FailedOver (sources : Vector Source 192) (lost quiet : Fin 192 → Bool) (r r' : Record) : Prop where
  taken    : ∀ b, FailoverMatch lost quiet r b → BackupUsable sources b →
    r' = { r with
      current := r'.current, phase := r'.phase, onBackup := true, notices := { r.notices with failoverTaken := true } } ∧
    match r.phase with
    | .ramping ramp (some next) =>
      r'.current = r.current ∧ r'.phase = .ramping ramp (some { next with source := .track b.source })
    | .ramping ramp none => r'.current = r.current ∧
      r'.phase = .ramping ramp (some { r.current with source := .track b.source, code := b.code, retire := false })
    | .live | .retiring _ =>
      r'.current = { r.current with source := .track b.source, code := b.code, retire := false } ∧
      r'.phase = if b.code.val = 0 then .live else .ramping ⟨r.current, 2 ^ (b.code.val + 4), 0⟩ none
  unusable : ∀ b, FailoverMatch lost quiet r b → ¬ BackupUsable sources b →
    r' = { r with notices := { r.notices with backupUnusable := true } }
  onLost   : OnLostBackup lost r → r' = { r with notices := { r.notices with backupLost := true } }
  kept     : (∀ b, ¬ FailoverMatch lost quiet r b) → ¬ OnLostBackup lost r → r' = r

end Sys2Proof.Machine
end

