-- ==== Sys2Proof/Certificates/Slice0/Obligations.lean ====
section
/-!
DEFINITION. The statements for the provers, block by block. `TakenWith`, `AnsweredWith` and `DoneWith` say that `exec` answers a next
state and which: everything they do not name is as it was. A statement about a choice of the model names its log entry.
-/
open Sys2Proof Sys2Proof.Machine

/-! ## The queue, the pins of reset -/

/-- A step takes the command at the front of the queue, with the queue's rest. On an empty queue it idles: the model's choice
(log 2). -/
def Obligations.StepTakesTheFrontCommand : Prop :=
  (∀ (c : Instr) (rest : List Instr) (s : State), s.pending = c :: rest → step s = exec c { s with pending := rest }) ∧
    ∀ s : State, s.pending = [] → step s = .next s

/-- No command touches the queue, and one free value at most is drawn (logs 2, 10). -/
def Obligations.ExecLeavesTheQueueAlone : Prop :=
  ∀ (i : Instr) (s t : State), exec i s = .next t →
    t.pending = s.pending ∧ (t.freeCount = s.freeCount ∨ t.freeCount = s.freeCount + 1)

/-- While RESET_N is low no event is taken but RESET_N's own, RDY and ALERT_N are held negated, and MISO is released to high impedance
(R175). MISO is driven exactly while CS_N is low and RESET_N is high (R176): between two events that is so only in a transaction whose
CS_N was low at the release of RESET_N, and after every transaction taken or not MISO is released. That a transaction is one event, with
CS_N high before and after it, is the model's reading (log 5). -/
def Obligations.NothingIsTakenDuringReset : Prop :=
  (∀ (i : Instr) (s : State), s.rstLow = true → wellFormed i = true → (∀ b, i ≠ .deviceReset b) → (∀ b, i ≠ .resetRelease b) →
    exec i s = .next s) ∧
  (∀ s : State, s.rstLow = true → ResetHeld s → rdyAsserted s = false ∧ alertAsserted s = false ∧ s.link.miso = []) ∧
  (∀ (csLow : Bool) (s : State), misoDriven csLow s = true ↔ csLow = true ∧ s.rstLow = false) ∧
  (∀ s : State, misoDrivenNow s = true ↔ s.link.csHeld = true ∧ s.rstLow = false) ∧
  ∀ (i : Instr) (s t : State), ((∃ bytes, i = .request bytes) ∨ (∃ n, i = .fetch n) ∨ ∃ bytes, i = .voidTransaction bytes) →
    exec i s = .next t → misoDrivenNow t = false

/-- DEVICE_RESET of the recognised time: every block enters the reset state its chapter gives (R175), RDY and ALERT_N are negated and
MISO is released. The model's choices: the queue and the counter of free values are its own and stay (logs 10, 20), and a fall commanded
while RESET_N is low resets again (log 22). -/
def Obligations.DeviceResetPutsEveryBlockInItsResetState : Prop :=
  ∀ s : State, ∃ t : State, exec (.deviceReset true) s = .next t ∧ AtReset t ∧ t.rstLow = true ∧ rdyAsserted t = false ∧
    alertAsserted t = false ∧ misoDrivenNow t = false ∧ t.link.csHeld = false ∧ t.pending = s.pending ∧ t.freeCount = s.freeCount

/-- A low level of RESET_N shorter than the recognised time is a whole device reset or nothing; which of them is a free value (log 7).
RESET_RELEASE opens the first metering window, and a transaction whose CS_N is low is held as not taken; that a
rise while RESET_N is high changes nothing is the model's choice (log 22). A reset and its release leave the state that the model starts
from (log 1). -/
def Obligations.ShortResetAndRelease : Prop :=
  (∀ s : State, ∃ t : State, exec (.deviceReset false) s = .next t ∧
    (exec (.deviceReset true) { s with freeCount := s.freeCount + 1 } = .next t ∨ t = { s with freeCount := s.freeCount + 1 })) ∧
  (∀ (s : State) (csLow : Bool), s.rstLow = true →
    exec (.resetRelease csLow) s =
      .next { s with rstLow := false, windowTicked := false, link := { s.link with csHeld := csLow } }) ∧
  (∀ (s : State) (csLow : Bool), s.rstLow = false → exec (.resetRelease csLow) s = .next s) ∧
  ∀ s : State, ∃ t : State, exec (.deviceReset true) s = .next t ∧
    exec (.resetRelease false) t = .next { State.reset with freeCount := s.freeCount, pending := s.pending }

/-! ## The Control Link -/

/-- Every request a command row stands for is read back from its bytes: no operand bit is dropped (R168, R178, R179, R182). The command code
and the payload bytes of every one of them, as the tables give them (R179, R181, R182), and a flag byte is set when it is not 0. -/
def Obligations.DecodeReadsBackEveryRequest : Prop :=
  (∀ (i : Instr) (code : Byte) (p : List Byte), wellFormed i = true → encodeRequest i = some (code, p) →
    p.length ≤ 250 ∧ decodeRequest code (BitVec.ofNat 8 p.length) p = .command i) ∧
  (encodeRequest .status = some (0x01#8, []) ∧
    (∀ h : Handle, encodeRequest (.readRoute h) = some (0x10#8, numberCoded h.toNat)) ∧
    (∀ dest, encodeRequest (.findDest dest) = some (0x11#8, [dest])) ∧
    (∀ source start, encodeRequest (.listSource source start) = some (0x12#8, [source, start])) ∧
    (∀ h : Handle, encodeRequest (.clearClip h) = some (0x13#8, numberCoded h.toNat)) ∧
    (∀ start, encodeRequest (.readNotices start) = some (0x14#8, [start])) ∧
    (∀ count entries, encodeRequest (.ackNotices count entries) =
      some (0x15#8, count :: entries.flatMap fun a => numberCoded a.handle.toNat ++ [a.mask])) ∧
    (∀ ports : Word, encodeRequest (.setGuards ports) = some (0x16#8, numberCoded ports.toNat)) ∧
    (∀ force, encodeRequest (.clearAll force) = some (0x17#8, [if force then 1#8 else 0#8])) ∧
    ∀ side first count, encodeRequest (.readMeters side first count) = some (0x18#8, [side, first, count])) ∧
  (encodeRequest .openBatch = some (0x20#8, []) ∧
    (∀ slot dest leg presence source triggers code, encodeRequest (.addEdit slot (.create dest leg presence source triggers code)) =
      some (0x21#8, [slot, 1#8, dest] ++ legFields leg ++ [presence, source, triggers, code])) ∧
    (∀ slot h mask leg, encodeRequest (.addEdit slot (.modify h mask leg)) =
      some (0x21#8, [slot, 2#8] ++ numberCoded h.toNat ++ [mask] ++ legFields leg)) ∧
    (∀ slot h code, encodeRequest (.addEdit slot (.retire h code)) = some (0x21#8, [slot, 3#8] ++ numberCoded h.toNat ++ [code])) ∧
    (∀ slot h, encodeRequest (.addEdit slot (.revert h)) = some (0x21#8, [slot, 4#8] ++ numberCoded h.toNat)) ∧
    (∀ slot timing frames mode, encodeRequest (.armBatch slot timing frames mode) = some (0x22#8, [slot, timing, frames, mode])) ∧
    (∀ slot, encodeRequest (.readResult slot) = some (0x23#8, [slot])) ∧
    (∀ slot, encodeRequest (.releaseBatch slot) = some (0x24#8, [slot])) ∧
    ∀ slot, encodeRequest (.cancelBatch slot) = some (0x25#8, [slot])) ∧
  ((∀ source clear, encodeRequest (.readSource source clear) = some (0x30#8, [source, if clear then 1#8 else 0#8])) ∧
    (∀ l q f lost quiet, encodeRequest (.setMonitor l q f lost quiet) = some (0x31#8, [l, q, f, lost, quiet])) ∧
    (∀ e : BitVec 192, ∃ p, encodeRequest (.setChangeEnables e) = some (0x32#8, p) ∧ p.length = 24 ∧
      ∀ n : Fin 192, ∃ b, p[n.val / 8]? = some b ∧ b.getLsbD (n.val % 8) = e.getLsbD n.val) ∧
    (∀ start, encodeRequest (.readSourceChanges start) = some (0x33#8, [start])) ∧
    (∀ count list, encodeRequest (.ackSources count list) = some (0x34#8, count :: list)) ∧
    ∀ dir port on, encodeRequest (.setDesk dir port on) = some (0x35#8, [dir, port, if on then 1#8 else 0#8])) ∧
  ((∀ lane clear, encodeRequest (.readLane lane clear) = some (0x40#8, [lane, if clear then 1#8 else 0#8])) ∧
    (∀ lane line keep budget mode lowest, encodeRequest (.setLane lane line keep budget mode lowest) =
      some (0x41#8, [lane] ++ numberCoded line.toNat ++ [keep, budget, mode, lowest])) ∧
    (∀ lane, encodeRequest (.restartLane lane) = some (0x42#8, [lane])) ∧
    (∀ mask, encodeRequest (.ackLanes mask) = some (0x43#8, [mask])) ∧
    encodeRequest .pollAlert = some (0x50#8, []) ∧
    (∀ c, encodeRequest (.ackAlert c) = some (0x51#8, [c])) ∧
    ∀ masks mode lowest style width, encodeRequest (.setAlert masks mode lowest style width) =
      some (0x52#8, [masks, mode, lowest, style, width])) ∧
  ∀ a b flag : Byte, let set := decide (flag ≠ 0#8)
    decodeRequest 0x17#8 1#8 [flag] = .command (.clearAll set) ∧
    decodeRequest 0x30#8 2#8 [a, flag] = .command (.readSource a set) ∧
    decodeRequest 0x35#8 3#8 [a, b, flag] = .command (.setDesk a b set) ∧
    decodeRequest 0x40#8 2#8 [a, flag] = .command (.readLane a set)

/-- REQUEST: the checks at the rise of CS_N. A link that is not IDLE discards it with OVERRUN; one cut short is discarded with SHORT;
else the first L payload bytes are judged: handed over, BAD_COMMAND for a code that names no command, BAD_LENGTH for a length over 250 or
one the command does not accept (R167, R168, R178, R179). ADD_EDIT, ACK_NOTICES and ACK_SOURCES accept the length their kind or count
calls for; a payload too short to hold that field is BAD_LENGTH, and of a value without a layout the length is not judged (R168, R182). -/
def Obligations.RequestIsJudgedAtTheRise : Prop :=
  ((∀ (bytes : List Byte) (s : State), s.rstLow = false → s.link.csHeld = false → s.link.state ≠ .idle →
    exec (.request bytes) s =
      .next { s with
        link := { s.link with
          overrun := true, slot := [], miso := linkStateByte s :: List.replicate bytes.length 0#8 } }) ∧
  (∀ (bytes : List Byte) (s : State), LinkFree s →
    (bytes.length < 2 ∨ ∃ code length p, bytes = code :: length :: p ∧ length.toNat ≤ 250 ∧ p.length < length.toNat) →
    exec (.request bytes) s =
      .next { s with
        link := { s.link with
          short := true, slot := [], miso := linkStateByte s :: List.replicate bytes.length 0#8 } }) ∧
  ∀ (code length : Byte) (p : List Byte) (s : State), LinkFree s → (250 < length.toNat ∨ length.toNat ≤ p.length) →
    exec (.request (code :: length :: p)) s =
      .next { s with
        link := { s.link with
          slot  := []
          miso  := linkStateByte s :: List.replicate (p.length + 2) 0#8
          state :=
            match decodeRequest code length (p.take length.toNat) with
            | .command i  => .processing i
            | .badCommand => .ready ⟨.badCommand, []⟩
            | .badLength  => .ready ⟨.badLength, []⟩ } }) ∧
  ((∀ (code length : Byte) (p : List Byte), code.toNat ∉
      [0x01, 0x10, 0x11, 0x12, 0x13, 0x14, 0x15, 0x16, 0x17, 0x18, 0x20, 0x21, 0x22, 0x23, 0x24, 0x25, 0x30, 0x31, 0x32, 0x33, 0x34,
        0x35, 0x40, 0x41, 0x42, 0x43, 0x50, 0x51, 0x52] → decodeRequest code length p = .badCommand) ∧
  (∀ (i : Instr) (code length : Byte) (p q : List Byte), encodeRequest i = some (code, p) → 250 < length.toNat →
    decodeRequest code length q = .badLength) ∧
  ∀ (i : Instr) (code length : Byte) (p q : List Byte), encodeRequest i = some (code, p) →
    (∀ j code' p', encodeRequest j = some (code', p') → code' = code → p'.length = p.length) → q.length ≠ p.length →
    decodeRequest code length q = .badLength) ∧
  ((∀ (length : Byte) (p : List Byte), p.length < 2 → decodeRequest 0x21#8 length p = .badLength) ∧
  (∀ (length slot kind : Byte) (rest : List Byte),
    (kind = 1#8 ∧ rest.length ≠ 12 ∨ kind = 2#8 ∧ rest.length ≠ 10 ∨ kind = 3#8 ∧ rest.length ≠ 3 ∨ kind = 4#8 ∧ rest.length ≠ 2 →
      decodeRequest 0x21#8 length (slot :: kind :: rest) = .badLength) ∧
    (kind ≠ 1#8 → kind ≠ 2#8 → kind ≠ 3#8 → kind ≠ 4#8 → length.toNat ≤ 250 →
      decodeRequest 0x21#8 length (slot :: kind :: rest) = .command (.addEdit slot (.unknown kind)))) ∧
  ∀ (length count : Byte) (rest : List Byte),
    decodeRequest 0x15#8 length [] = .badLength ∧ decodeRequest 0x34#8 length [] = .badLength ∧
    (1 ≤ count.toNat → count.toNat ≤ 32 →
      (rest.length ≠ 3 * count.toNat → decodeRequest 0x15#8 length (count :: rest) = .badLength) ∧
      (rest.length ≠ count.toNat → decodeRequest 0x34#8 length (count :: rest) = .badLength)) ∧
    (count.toNat = 0 ∨ 32 < count.toNat → length.toNat ≤ 250 →
      decodeRequest 0x15#8 length (count :: rest) = .command (.ackNotices count []) ∧
      decodeRequest 0x34#8 length (count :: rest) = .command (.ackSources count [])))

/-- FETCH: the frame on MISO, and what a complete one clears (R170 to R172). A fetch cut short changes nothing but MISO. The flags byte
and the link state byte, bit by bit (R171, R178), and the codes of the status byte (R180). -/
def Obligations.FetchSendsAFrame : Prop :=
  (∀ (n : Nat) (r : Response) (s : State), s.rstLow = false → s.link.csHeld = false → s.link.state = .ready r →
    (3 + r.payload.length ≤ n →
      exec (.fetch n) s =
        .next { s with
          link := { s.link with state := .idle, overrun := false, short := false, miso := frameOnMiso s r n } }) ∧
    (n < 3 + r.payload.length →
      exec (.fetch n) s = .next { s with link := { s.link with miso := frameOnMiso s r n } })) ∧
  (∀ (n : Nat) (s : State), s.rstLow = false → s.link.csHeld = false → (∀ r, s.link.state ≠ .ready r) →
    (3 ≤ n →
      exec (.fetch n) s =
        .next { s with
          link := { s.link with overrun := false, short := false, miso := frameOnMiso s ⟨.nothing, []⟩ n } }) ∧
    (n < 3 → exec (.fetch n) s = .next { s with link := { s.link with miso := frameOnMiso s ⟨.nothing, []⟩ n } })) ∧
  (∀ s : State, (flagsByte s).getLsbD 7 = s.link.fresh ∧ (flagsByte s).getLsbD 6 = s.link.overrun ∧
    (flagsByte s).getLsbD 5 = s.link.short ∧ ((flagsByte s).getLsbD 4 = true ↔ ∃ c, eligible (requests s) s.alert c = true) ∧
    (flagsByte s).toNat % 16 = 0 ∧
    (linkStateByte s).toNat = (flagsByte s).toNat + match s.link.state with
      | .idle => 0
      | .processing _ => 1
      | .ready _ => 2) ∧
  [Status.ok, .none, .range, .stale, .alreadyOpen, .noSlot, .notOpen, .batchFull, .duplicate, .empty, .notDone, .badState, .tooLate,
    .badCommand, .badLength, .nothing].map statusCode = (List.range 16).map (BitVec.ofNat 8)

/-- VOID_TRANSACTION changes nothing but MISO (R165). A transaction whose CS_N was low at the release of RESET_N is not taken; what
MISO carries in it is free (R175; log 8). -/
def Obligations.VoidAndHeldTransactionsChangeNothing : Prop :=
  (∀ s : State, s.rstLow = false → s.link.csHeld = false →
    exec (.voidTransaction []) s = .next { s with link := { s.link with miso := [] } }) ∧
  (∀ (lead : Byte) (rest : List Byte) (s : State), lead ≠ 0x52#8 → lead ≠ 0x46#8 → s.rstLow = false → s.link.csHeld = false →
    exec (.voidTransaction (lead :: rest)) s =
      .next { s with link := { s.link with miso := linkStateByte s :: List.replicate rest.length 0#8 } }) ∧
  ∀ s : State, s.rstLow = false → s.link.csHeld = true →
    (∀ bytes, exec (.request bytes) s =
      .next { s with
        freeCount := s.freeCount + 1
        link := { s.link with
          csHeld := false, miso := (List.range (bytes.length + 1)).map (Config.untakenMiso s.freeCount) } }) ∧
    (∀ n, exec (.fetch n) s =
      .next { s with
        freeCount := s.freeCount + 1
        link := { s.link with csHeld := false, miso := (List.range (n + 1)).map (Config.untakenMiso s.freeCount) } }) ∧
    ∀ bytes, wellFormed (.voidTransaction bytes) = true → exec (.voidTransaction bytes) s =
      .next { s with
        freeCount := s.freeCount + 1
        link := { s.link with csHeld := false, miso := (List.range bytes.length).map (Config.untakenMiso s.freeCount) } }

/-- Every request handed over is taken, at once and whole: a response of at most 250 bytes stands in the buffer and RDY is asserted
(R166, R169). -/
def Obligations.EveryRequestIsAnswered : Prop :=
  ∀ (i : Instr) (s : State), Inv s → isRequest i = true → HandedOver i s →
    ∃ (t : State) (r : Response), exec i s = .next t ∧ t.link.state = .ready r ∧ r.payload.length ≤ 250 ∧ rdyAsserted t = true ∧
      t.link.overrun = s.link.overrun ∧ t.link.short = s.link.short ∧ t.link.miso = s.link.miso

/-- One exchange of request, taking and fetch on a free link comes to its end in three steps: the link is IDLE again, and the frame
of the response made was sent (R166 to R170). -/
def Obligations.OneExchangeReturnsTheLinkToIdle : Prop :=
  ∀ (i : Instr) (code : Byte) (p : List Byte) (rest : List Instr) (s : State), Inv s → LinkFree s → wellFormed i = true →
    encodeRequest i = some (code, p) → s.pending = .request (requestBytes code p) :: i :: .fetch 253 :: rest →
    ∃ (u t : State) (r : Response), Host.Core.run core 2 s = .next u ∧ Host.Core.run core 3 s = .next t ∧ u.link.state = .ready r ∧
      t = { u with
        pending := rest
        link := { u.link with state := .idle, overrun := false, short := false, miso := frameOnMiso u r 253 } }

/-- A whole request on a free link is handed over to the block that owns it, and nothing but the link changes (R167, R168). The model's
choice (log 4): a request row commanded while it is not handed over first sends this transaction of its own. On a free link the row then
does what it does handed over; on a link that is not IDLE the request is discarded with OVERRUN. -/
def Obligations.WholeRequestIsHandedOver : Prop :=
  ∀ (i : Instr) (code : Byte) (p : List Byte) (s : State), wellFormed i = true → encodeRequest i = some (code, p) →
    (LinkFree s → ∃ t : State, exec (.request (requestBytes code p)) s = .next t ∧ HandedOver i t ∧ t.link.slot = [] ∧
      t = { s with link := { s.link with state := t.link.state, slot := t.link.slot, miso := t.link.miso } } ∧
      exec i s = exec i t) ∧
    (s.rstLow = false → s.link.csHeld = false → s.link.state ≠ .idle → s.link.state ≠ .processing i →
      exec i s = exec (.request (requestBytes code p)) s)

/-! ## The Route Table's requests -/

/-- STATUS: the 13 bytes, read from every block at one moment, with FRESH as it stood; FRESH is then cleared and nothing else
changes (R173, R174, R183). -/
def Obligations.StatusReadsEveryBlock : Prop :=
  ∀ s : State, HandedOver .status s → ∃ (present : Byte) (codes : List Byte),
    (∀ n : Fin 8, present.getLsbD n.val = true ↔ s.lanes[n].presence ≠ .absent) ∧
    codes.length = 4 ∧
    (∀ i : Fin 4, codes[i.val]? = some (match s.edit.slots[i] with
      | .free => 0#8
      | .opened _ => 1#8
      | .armed .. => 2#8
      | .done _ => 3#8)) ∧
    exec .status s =
      .next (respond { s with link := { s.link with fresh := false } }
        ⟨.ok, [0x08#8, 0x16#8, 0x01#8, if s.link.fresh then 1#8 else 0#8,
            BitVec.ofNat 8 ((List.finRange 160).filter fun i => s.route.slots[i].record = none).length] ++ codes ++
          [match s.route.clearAll with
            | none => 0#8
            | some false => 1#8
            | some true => 2#8,
            BitVec.ofNat 8 (s.route.guards.toNat / 256), BitVec.ofNat 8 s.route.guards.toNat, present]⟩)

/-- A handle is judged by its slot part and its generation part (R22); READ_ROUTE and CLEAR_CLIP refuse one that names no record, and
change nothing. -/
def Obligations.HandlesAreChecked : Prop :=
  (∀ (rt : RouteTable) (h : Handle), (checkHandle rt h = .range ↔ 160 ≤ h.toNat % 256) ∧
    (checkHandle rt h = .stale ↔ HandleStale rt h) ∧ ∀ i r, checkHandle rt h = .valid i r ↔ HandleNames rt h i r) ∧
  ∀ (h : Handle) (s : State),
    (160 ≤ h.toNat % 256 →
      (HandedOver (.readRoute h) s → AnsweredWith (.readRoute h) s ⟨.range, []⟩) ∧
      (HandedOver (.clearClip h) s → AnsweredWith (.clearClip h) s ⟨.range, []⟩)) ∧
    (HandleStale s.route h →
      (HandedOver (.readRoute h) s → AnsweredWith (.readRoute h) s ⟨.stale, []⟩) ∧
      (HandedOver (.clearClip h) s → AnsweredWith (.clearClip h) s ⟨.stale, []⟩))

/-- READ_ROUTE of a valid handle: the 36 bytes of the record image, an absent part as zeros, and nothing changes
(R34, R181, R182). -/
def Obligations.ReadRouteReturnsTheImage : Prop :=
  ∀ (h : Handle) (i : Fin 160) (r : Record) (s : State), HandedOver (.readRoute h) s → HandleNames s.route h i r →
    ∃ img : List Byte, AnsweredWith (.readRoute h) s ⟨.ok, img⟩ ∧ img.length = 36 ∧
      img.take 2 = numberCoded h.toNat ∧
      img[2]? = some (match r.phase with
        | .live => 1#8
        | .ramping _ _ => 2#8
        | .retiring _ => 3#8) ∧
      img[3]? = some (BitVec.ofNat 8 r.dest.val) ∧
      (∃ parts : Byte, img[4]? = some parts ∧ (parts.getLsbD 0 = true ↔ r.phase ≠ .live) ∧
        (parts.getLsbD 1 = true ↔ ∃ ramp next, r.phase = .ramping ramp (some next)) ∧
        (parts.getLsbD 2 = true ↔ r.backup ≠ none) ∧ parts.toNat < 8) ∧
      (img.drop 5).take 7 = legCoded r.current ∧
      (∀ ramp, (r.phase = .retiring ramp ∨ ∃ next, r.phase = .ramping ramp next) →
        (img.drop 12).take 11 = legCoded ramp.fading ++ numberCoded ramp.length ++ numberCoded ramp.position) ∧
      (r.phase = .live → (img.drop 12).take 11 = List.replicate 11 0#8) ∧
      (∀ ramp next, r.phase = .ramping ramp (some next) → (img.drop 23).take 7 = legCoded next) ∧
      ((∀ ramp next, r.phase ≠ .ramping ramp (some next)) → (img.drop 23).take 7 = List.replicate 7 0#8) ∧
      img[30]? = some (match r.primary with
        | .track n => BitVec.ofNat 8 n.val
        | .silence => 255#8) ∧
      (∀ b, r.backup = some b → (img.drop 31).take 3 = [BitVec.ofNat 8 b.source.val,
        BitVec.ofNat 8 ((if b.onLost then 1 else 0) + if b.onQuiet then 2 else 0), BitVec.ofNat 8 b.code.val]) ∧
      (r.backup = none → (img.drop 31).take 3 = List.replicate 3 0#8) ∧
      img[34]? = some (BitVec.ofNat 8 ((if r.onBackup then 1 else 0) + if r.clip then 2 else 0)) ∧
      img[35]? = some (BitVec.ofNat 8 ((if r.notices.failoverTaken then 1 else 0) +
        (if r.notices.backupUnusable then 2 else 0) + if r.notices.backupLost then 4 else 0))

/-- FIND_DEST (R35): RANGE, the handle of the record the map names, or NONE; it changes nothing. -/
def Obligations.FindDestReadsTheMap : Prop :=
  ∀ (d : Byte) (s : State), HandedOver (.findDest d) s →
    (192 ≤ d.toNat → AnsweredWith (.findDest d) s ⟨.range, []⟩) ∧
    ∀ e : Fin 192, d.toNat = e.val →
      (s.route.destMap[e] = none → AnsweredWith (.findDest d) s ⟨.none, []⟩) ∧
      ∀ i, s.route.destMap[e] = some i →
        AnsweredWith (.findDest d) s ⟨.ok, [s.route.slots[i].gen, BitVec.ofNat 8 i.val]⟩

/-- LIST_SOURCE, READ_NOTICES and READ_SOURCE_CHANGES answer one page of at most 32 items from the start upward, with where to go on,
and change nothing; a start or a source out of range is refused with RANGE (R1, R36, R38, R112). -/
def Obligations.PagesRunUpwardFromTheStart : Prop :=
  (∀ (source start : Byte) (s : State), HandedOver (.listSource source start) s →
    ((192 ≤ source.toNat ∧ source.toNat ≤ 254) ∨ 160 ≤ start.toNat → AnsweredWith (.listSource source start) s ⟨.range, []⟩) ∧
    ∀ (src : LegSource) (st : Fin 160),
      (src = .silence ∧ source = 255#8 ∨ ∃ n : Fin 192, src = .track n ∧ source.toNat = n.val) → start.toNat = st.val →
      AnsweredWith (.listSource source start) s ⟨.ok, pagePayload (itemsFrom
        (fun i : Fin 160 => match s.route.slots[i].record with
          | none => none
          | some r =>
            if (legsOf r).any fun l => l.source = src then some [s.route.slots[i].gen, BitVec.ofNat 8 i.val] else none) st)⟩) ∧
  (∀ (start : Byte) (s : State), HandedOver (.readNotices start) s →
    (160 ≤ start.toNat → AnsweredWith (.readNotices start) s ⟨.range, []⟩) ∧
    ∀ st : Fin 160, start.toNat = st.val →
      AnsweredWith (.readNotices start) s ⟨.ok, pagePayload (itemsFrom
        (fun i : Fin 160 => match s.route.slots[i].record with
          | none => none
          | some r =>
            if r.notices.failoverTaken ∨ r.notices.backupUnusable ∨ r.notices.backupLost then
              some [s.route.slots[i].gen, BitVec.ofNat 8 i.val, BitVec.ofNat 8 ((if r.notices.failoverTaken then 1 else 0) +
                (if r.notices.backupUnusable then 2 else 0) + if r.notices.backupLost then 4 else 0)]
            else none) st)⟩) ∧
  ∀ (start : Byte) (s : State), HandedOver (.readSourceChanges start) s →
    (192 ≤ start.toNat → AnsweredWith (.readSourceChanges start) s ⟨.range, []⟩) ∧
    ∀ st : Fin 192, start.toNat = st.val →
      AnsweredWith (.readSourceChanges start) s ⟨.ok, pagePayload (itemsFrom
        (fun n : Fin 192 =>
          if s.monitor.sources[n].changeFlag then
            some [BitVec.ofNat 8 n.val,
              match s.monitor.sources[n].state with
              | .idle => 0#8
              | .priming => 1#8
              | .running => 2#8
              | .starved => 3#8
              | .lost => 4#8,
              if s.monitor.sources[n].quiet then 1#8 else 0#8]
          else none) st)⟩

/-- CLEAR_CLIP of a valid handle clears the record's clip flag, answers the flag as it was, and changes nothing else (R37). ACK_NOTICES: a
count of 0 or over 32 is refused and clears nothing; else every entry is checked on its own, the codes follow in list order, and a record
keeps a notice unless an entry with its handle names it; nothing else changes (R39). -/
def Obligations.ClipAndNoticesAreCleared : Prop :=
  (∀ (h : Handle) (i : Fin 160) (r : Record) (s : State), HandedOver (.clearClip h) s → HandleNames s.route h i r →
    ∃ rt : RouteTable, TakenWith (.clearClip h) s { s with route := rt } ⟨.ok, [if r.clip then 1#8 else 0#8]⟩ ∧
      SlotHolds s.route rt i { r with clip := false }) ∧
  (∀ (count : Byte) (entries : List NoticeAck) (s : State), HandedOver (.ackNotices count entries) s →
    (count.toNat = 0 ∨ 32 < count.toNat → AnsweredWith (.ackNotices count entries) s ⟨.range, []⟩) ∧
    (1 ≤ count.toNat → count.toNat ≤ 32 → ∃ rt : RouteTable,
      TakenWith (.ackNotices count entries) s { s with route := rt }
        ⟨.ok, entries.map fun a => match checkHandle s.route a.handle with
          | .valid _ _ => 0x00#8
          | .range => 0x02#8
          | .stale => 0x03#8⟩ ∧
      rt = { s.route with slots := rt.slots } ∧
      ∀ i : Fin 160, rt.slots[i] = ⟨s.route.slots[i].gen, s.route.slots[i].record.map fun r =>
        { r with notices :=
          ⟨r.notices.failoverTaken && !entries.any fun a => decide (HandleNames s.route a.handle i r) && a.mask.getLsbD 0,
            r.notices.backupUnusable && !entries.any fun a => decide (HandleNames s.route a.handle i r) && a.mask.getLsbD 1,
            r.notices.backupLost && !entries.any fun a => decide (HandleNames s.route a.handle i r) && a.mask.getLsbD 2⟩ }⟩))

/-- SET_GUARDS puts the 12 guards of its mask in force and answers them, or is refused with RANGE for a port above 11 (R31).
CLEAR_ALL becomes pending, with force if this request or the pending one has it, and nothing else changes (R60). -/
def Obligations.GuardsAndClearAllRequests : Prop :=
  (∀ (mask : Word) (s : State), HandedOver (.setGuards mask) s →
    (4096 ≤ mask.toNat → AnsweredWith (.setGuards mask) s ⟨.range, []⟩) ∧
    (mask.toNat < 4096 → ∃ g : BitVec 12, (∀ p : Fin 12, g.getLsbD p.val = mask.getLsbD p.val) ∧
      exec (.setGuards mask) s = .next (respond { s with route := { s.route with guards := g } }
        ⟨.ok, numberCoded mask.toNat⟩))) ∧
  ∀ (force : Bool) (s : State), HandedOver (.clearAll force) s →
    exec (.clearAll force) s = .next (respond { s with
      route := { s.route with clearAll := some (force || s.route.clearAll == some true) } } ⟨.ok, []⟩)

/-- READ_METERS: the pairs of `count` tracks of a side from the first upward, or RANGE; it changes nothing (R92). -/
def Obligations.ReadMetersReadsARun : Prop :=
  ∀ (side first count : Byte) (s : State), HandedOver (.readMeters side first count) s →
    (2 ≤ side.toNat ∨ 192 ≤ first.toNat ∨ count.toNat = 0 ∨ 48 < count.toNat ∨ 192 < first.toNat + count.toNat →
      AnsweredWith (.readMeters side first count) s ⟨.range, []⟩) ∧
    (1 ≤ count.toNat → count.toNat ≤ 48 → first.toNat + count.toNat ≤ 192 → ∃ pairs : List Byte,
      pairs.length = 4 * count.toNat ∧
      (side = 0#8 → AnsweredWith (.readMeters side first count) s ⟨.ok, pairs⟩ ∧
        ∀ (k : Fin 48) (n : Fin 192), k.val < count.toNat → n.val = first.toNat + k.val →
          (pairs.drop (4 * k.val)).take 4 = meterCoded s.monitor.sources[n].meter) ∧
      (side = 1#8 → AnsweredWith (.readMeters side first count) s ⟨.ok, pairs⟩ ∧
        ∀ (k : Fin 48) (d : Fin 192), k.val < count.toNat → d.val = first.toNat + k.val →
          (pairs.drop (4 * k.val)).take 4 = meterCoded s.route.destMeters[d]))

/-! ## The Edit Stage -/

/-- OPEN_BATCH (R43): ALREADY_OPEN naming the open slot, NO_SLOT, or the lowest FREE slot opened with an empty list; at most one slot
is OPEN afterwards. -/
def Obligations.OpenBatchOpensTheLowestFreeSlot : Prop :=
  ∀ s : State, HandedOver .openBatch s → EditOk s.edit →
    (∀ (i : Fin 4) (edits : List ListedEdit), s.edit.slots[i] = .opened edits → AnsweredWith .openBatch s ⟨.alreadyOpen, [BitVec.ofNat 8 i.val]⟩) ∧
    ((∀ i : Fin 4, isOpened s.edit.slots[i] = false ∧ s.edit.slots[i] ≠ .free) → AnsweredWith .openBatch s ⟨.noSlot, []⟩) ∧
    ∀ i : Fin 4, (∀ j : Fin 4, isOpened s.edit.slots[j] = false) → s.edit.slots[i] = .free →
      (∀ j : Fin 4, j < i → s.edit.slots[j] ≠ .free) →
      ∃ es : EditStage, TakenWith .openBatch s { s with edit := es } ⟨.ok, [BitVec.ofNat 8 i.val]⟩ ∧
        es = { s.edit with slots := es.slots } ∧ es.slots[i] = .opened [] ∧
        (∀ j : Fin 4, j ≠ i → es.slots[j] = s.edit.slots[j]) ∧
        ∀ j k : Fin 4, isOpened es.slots[j] = true → isOpened es.slots[k] = true → j = k

/-- ADD_EDIT: the checks in their order, the first that fails giving the code and changing nothing; an edit that passes joins the end
of the list, and its index and the length of the list are answered (R44). -/
def Obligations.AddEditJudgesInOrder : Prop :=
  ∀ (slot : Byte) (f : EditFields) (s : State), HandedOver (.addEdit slot f) s →
    (4 ≤ slot.toNat → AnsweredWith (.addEdit slot f) s ⟨.range, []⟩) ∧
    ∀ i : Fin 4, slot.toNat = i.val →
      (isOpened s.edit.slots[i] = false → AnsweredWith (.addEdit slot f) s ⟨.notOpen, []⟩) ∧
      ∀ list : List ListedEdit, s.edit.slots[i] = .opened list →
        (decodeEdit f = none → AnsweredWith (.addEdit slot f) s ⟨.range, []⟩) ∧
        ∀ e : Edit, decodeEdit f = some e →
          (∀ h, (∃ p, e = .modify h p) ∨ (∃ c, e = .retire h c) ∨ e = .revert h →
            (160 ≤ h.toNat % 256 → AnsweredWith (.addEdit slot f) s ⟨.range, []⟩) ∧
            (HandleStale s.route h → AnsweredWith (.addEdit slot f) s ⟨.stale, []⟩)) ∧
          ∀ d : Fin 192,
            ((∃ leg b, e = .create d leg b) ∨ ∃ h i r, HandleNames s.route h i r ∧ r.dest = d ∧
              ((∃ p, e = .modify h p) ∨ (∃ c, e = .retire h c) ∨ e = .revert h)) →
            (16 ≤ list.length → AnsweredWith (.addEdit slot f) s ⟨.batchFull, []⟩) ∧
            (list.length < 16 → (∃ x ∈ list, x.dest = d) → AnsweredWith (.addEdit slot f) s ⟨.duplicate, []⟩) ∧
            (list.length < 16 → (∀ x ∈ list, x.dest ≠ d) →
              ∃ es : EditStage, TakenWith (.addEdit slot f) s { s with edit := es }
                  ⟨.ok, [BitVec.ofNat 8 list.length, BitVec.ofNat 8 (list.length + 1)]⟩ ∧
                es = { s.edit with slots := es.slots } ∧ es.slots[i] = .opened (list ++ [⟨e, d⟩]) ∧
                ∀ j : Fin 4, j ≠ i → es.slots[j] = s.edit.slots[j])

/-- Checks 3 and 4 of ADD_EDIT: which field values of each kind lie in range, and the edit they give; the leg of a CREATE carries no
retire mark, and a field that a MODIFY does not name is not judged (R45 to R47, R181, R182). -/
def Obligations.EditFieldsHaveTheirRanges : Prop :=
  (∀ (dest : Byte) (l : RawLeg) (pres bs tr fc : Byte) (e : Edit),
    decodeEdit (.create dest l pres bs tr fc) = some e ↔
      ∃ (d : Fin 192) (leg : Leg) (b : Option Backup), e = .create d leg b ∧ d.val = dest.toNat ∧
        (l.source = 255#8 ∧ leg.source = .silence ∨ ∃ n : Fin 192, n.val = l.source.toNat ∧ leg.source = .track n) ∧
        leg.mantissa = l.mantissa ∧ leg.boost.val = l.boost.toNat ∧ leg.delay.val = l.delay.toNat ∧
        leg.code.val = l.ramp.toNat ∧ leg.retire = false ∧
        (pres = 0#8 ∧ b = none ∨ pres = 1#8 ∧ tr.toNat ≤ 3 ∧ ∃ (n : Fin 192) (c : Fin 8), n.val = bs.toNat ∧ c.val = fc.toNat ∧
          b = some ⟨n, tr.getLsbD 0, tr.getLsbD 1, c⟩)) ∧
  (∀ (h : Handle) (mask : Byte) (l : RawLeg) (e : Edit),
    decodeEdit (.modify h mask l) = some e ↔
      1 ≤ mask.toNat ∧ mask.toNat < 32 ∧ ∃ p : LegPatch, e = .modify h p ∧
        (if mask.getLsbD 0 then
          (l.source = 255#8 ∧ p.source = some .silence ∨ ∃ n : Fin 192, n.val = l.source.toNat ∧ p.source = some (.track n))
        else p.source = none) ∧
        p.mantissa = (if mask.getLsbD 1 then some l.mantissa else none) ∧
        p.boost.map (·.val) = (if mask.getLsbD 2 then some l.boost.toNat else none) ∧
        p.delay.map (·.val) = (if mask.getLsbD 3 then some l.delay.toNat else none) ∧
        p.code.map (·.val) = (if mask.getLsbD 4 then some l.ramp.toNat else none)) ∧
  (∀ (h : Handle) (code : Byte) (e : Edit),
    decodeEdit (.retire h code) = some e ↔ ∃ c : Fin 8, c.val = code.toNat ∧ e = .retire h c) ∧
  (∀ h : Handle, decodeEdit (.revert h) = some (.revert h)) ∧ ∀ k : Byte, decodeEdit (.unknown k) = none

/-- ARM_BATCH: the checks in their order, else the slot becomes ARMED with its timing entry and the next arming number, which 255
is followed by 0, and joins the end of the queue. IMMEDIATE is due at once; its remaining count is held as 0 (log 11)
(R10, R12, R42, R48). -/
def Obligations.ArmBatchJudgesInOrder : Prop :=
  ∀ (slot timing frames mode : Byte) (s : State), HandedOver (.armBatch slot timing frames mode) s →
    (4 ≤ slot.toNat → AnsweredWith (.armBatch slot timing frames mode) s ⟨.range, []⟩) ∧
    ∀ i : Fin 4, slot.toNat = i.val →
      (isOpened s.edit.slots[i] = false → AnsweredWith (.armBatch slot timing frames mode) s ⟨.notOpen, []⟩) ∧
      ∀ list : List ListedEdit, s.edit.slots[i] = .opened list →
        (9 < timing.toNat ∨ 1 < mode.toNat ∨ (timing.toNat ≤ 8 ∧ (frames.toNat = 0 ∨ 16 < frames.toNat)) →
          AnsweredWith (.armBatch slot timing frames mode) s ⟨.range, []⟩) ∧
        (∀ (t : Timing) (m : BatchMode),
          (mode.toNat = 0 ∧ m = .each ∨ mode.toNat = 1 ∧ m = .allOrNone) →
          (timing.toNat = 9 ∧ t = ⟨.immediate, 0, true⟩ ∨
            1 ≤ frames.toNat ∧ frames.toNat ≤ 16 ∧ (timing.toNat = 8 ∧ t = ⟨.ref, frames.toNat, false⟩ ∨
              ∃ n : Fin 8, timing.toNat = n.val ∧ t = ⟨.lane n, frames.toNat, false⟩)) →
          (list = [] → AnsweredWith (.armBatch slot timing frames mode) s ⟨.empty, []⟩) ∧
          (list ≠ [] → ∃ es : EditStage,
            TakenWith (.armBatch slot timing frames mode) s { s with edit := es } ⟨.ok, [s.edit.nextArming]⟩ ∧
              es.slots[i] = .armed list m t s.edit.nextArming ∧ (∀ j : Fin 4, j ≠ i → es.slots[j] = s.edit.slots[j]) ∧
              es.queue = s.edit.queue ++ [i] ∧
              es.nextArming = if s.edit.nextArming = 255#8 then 0#8 else s.edit.nextArming + 1#8))

/-- RELEASE_BATCH (R58): a DONE or an OPEN slot becomes FREE, with what it held discarded; a FREE or ARMED one is refused; the BATCH
request ends when no slot is left DONE. -/
def Obligations.ReleaseBatchFreesDoneAndOpen : Prop :=
  ∀ (slot : Byte) (s : State), HandedOver (.releaseBatch slot) s →
    (4 ≤ slot.toNat → AnsweredWith (.releaseBatch slot) s ⟨.range, []⟩) ∧
    ∀ i : Fin 4, slot.toNat = i.val →
      (s.edit.slots[i] = .free ∨ isArmed s.edit.slots[i] = true → AnsweredWith (.releaseBatch slot) s ⟨.badState, []⟩) ∧
      (isOpened s.edit.slots[i] = true ∨ isDone s.edit.slots[i] = true →
        ∃ es : EditStage, TakenWith (.releaseBatch slot) s { s with edit := es } ⟨.ok, []⟩ ∧
          es = { s.edit with slots := es.slots } ∧ es.slots[i] = .free ∧
          (∀ j : Fin 4, j ≠ i → es.slots[j] = s.edit.slots[j]) ∧
          ((∀ j : Fin 4, j ≠ i → isDone s.edit.slots[j] = false) → (requests { s with edit := es }).batch = false))

/-- CANCEL_BATCH: an ARMED slot, due or not, leaves the queue and becomes FREE, an OPEN one becomes FREE, DONE is TOO_LATE, FREE is
BAD_STATE (R59). READ_RESULT: the whole result of a DONE slot, four bytes and five for each entry, and nothing changes; any other slot is
refused with NOT_DONE (R56, R57, R182); and the codes of the edit outcomes (R180). -/
def Obligations.CancelBatchAndReadResult : Prop :=
  (∀ (slot : Byte) (s : State), HandedOver (.cancelBatch slot) s →
    (4 ≤ slot.toNat → AnsweredWith (.cancelBatch slot) s ⟨.range, []⟩) ∧
    ∀ i : Fin 4, slot.toNat = i.val →
      (s.edit.slots[i] = .free → AnsweredWith (.cancelBatch slot) s ⟨.badState, []⟩) ∧
      (isDone s.edit.slots[i] = true → AnsweredWith (.cancelBatch slot) s ⟨.tooLate, []⟩) ∧
      (isOpened s.edit.slots[i] = true ∨ isArmed s.edit.slots[i] = true →
        ∃ es : EditStage, TakenWith (.cancelBatch slot) s { s with edit := es } ⟨.ok, []⟩ ∧
          es.slots[i] = .free ∧ (∀ j : Fin 4, j ≠ i → es.slots[j] = s.edit.slots[j]) ∧ es.nextArming = s.edit.nextArming ∧
          es.queue = if isArmed s.edit.slots[i] then s.edit.queue.filter (· ≠ i) else s.edit.queue)) ∧
  (∀ (slot : Byte) (s : State), HandedOver (.readResult slot) s →
    (4 ≤ slot.toNat → AnsweredWith (.readResult slot) s ⟨.range, []⟩) ∧
    ∀ i : Fin 4, slot.toNat = i.val →
      (isDone s.edit.slots[i] = false → AnsweredWith (.readResult slot) s ⟨.notDone, []⟩) ∧
      ∀ r : BatchResult, s.edit.slots[i] = .done r → ∃ img : List Byte, AnsweredWith (.readResult slot) s ⟨.ok, img⟩ ∧
        img.length = 4 + 5 * r.entries.length ∧
        img.take 4 = [match r.mode with
            | .each => 0#8
            | .allOrNone => 1#8,
          r.arming, BitVec.ofNat 8 r.entries.length, match r.outcome with
            | .complete => 0#8
            | .partially => 1#8
            | .aborted => 2#8] ∧
        ∀ (k : Nat) (e : ResultEntry), r.entries[k]? = some e →
          (img.drop (4 + 5 * k)).take 5 = [match e.kind with
              | .create => 1#8
              | .modify => 2#8
              | .retire => 3#8
              | .revert => 4#8,
            BitVec.ofNat 8 e.dest.val, outcomeCode e.outcome] ++ numberCoded e.handle.toNat) ∧
  [EditOutcome.applied, .deferred, .already, .stale, .guarded, .destBusy, .tableFull, .routeRetiring, .notOnBackup, .skipped].map
    outcomeCode = (List.range 10).map (BitVec.ofNat 8)

/-! ## The apply -/

/-- One batch at apply: every edit is judged on the table as the earlier ones left it. The outcomes that are failures: STALE, PROTECTED,
DEST_BUSY, TABLE_FULL, ROUTE_RETIRING, NOT_ON_BACKUP. EACH carries out every edit that passes and is
PARTIAL when one fails. ALL_OR_NONE is carried out whole, or not at all: then the table stays, an edit that failed keeps its code and
every other is SKIPPED. The handle of an entry: the one the edit carried; of a CREATE the one issued to it when it is APPLIED, else 0
(R49, R54 to R56). That an entry's destination is the one ADD_EDIT listed, also for an edit whose handle has become STALE, is the model's
reading (log 17). -/
def Obligations.BatchIsAppliedByItsMode : Prop :=
  ∀ (rt : RouteTable) (edits : List ListedEdit) (arming : Byte),
    let outcomes := (List.range edits.length).map fun k =>
      (edits[k]?).map fun e => (applyEdit (tableAfter rt (edits.take k)) e.edit).outcome
    let failed := ∃ o, some o ∈ outcomes ∧ isFailure o = true
    (∀ mode, (applyBatch rt edits mode arming).2.mode = mode ∧ (applyBatch rt edits mode arming).2.arming = arming ∧
      (applyBatch rt edits mode arming).2.entries.map (fun e => (e.kind, e.dest)) =
        edits.map fun e => (kindOf e.edit, e.dest)) ∧
    (applyBatch rt edits .each arming).1 = tableAfter rt edits ∧
    (applyBatch rt edits .each arming).2.entries.map (fun e => some e.outcome) = outcomes ∧
    (∀ o : EditOutcome, isFailure o = true ↔ o = .stale ∨ o = .guarded ∨ o = .destBusy ∨ o = .tableFull ∨ o = .routeRetiring ∨
      o = .notOnBackup) ∧
    (∀ (mode : BatchMode) (k : Nat) (x : ListedEdit) (e : ResultEntry),
      edits[k]? = some x → (applyBatch rt edits mode arming).2.entries[k]? = some e →
      (∀ h, (∃ p, x.edit = .modify h p) ∨ (∃ c, x.edit = .retire h c) ∨ x.edit = .revert h → e.handle = h) ∧
      ∀ d leg b, x.edit = .create d leg b → (e.outcome ≠ .applied → e.handle = 0#16) ∧
        (e.outcome = .applied → ∃ i : Fin 160, (tableAfter rt (edits.take k)).slots[i].record = none ∧
          (∀ j : Fin 160, j < i → (tableAfter rt (edits.take k)).slots[j].record ≠ none) ∧
          e.handle.toNat = (tableAfter rt (edits.take k)).slots[i].gen.toNat * 256 + i.val)) ∧
    (failed → (applyBatch rt edits .each arming).2.outcome = .partially ∧
      (applyBatch rt edits .allOrNone arming).1 = rt ∧ (applyBatch rt edits .allOrNone arming).2.outcome = .aborted ∧
      (applyBatch rt edits .allOrNone arming).2.entries.map (fun e => some e.outcome) =
        outcomes.map (Option.map fun o => if isFailure o then o else .skipped) ∧
      ∀ e ∈ (applyBatch rt edits .allOrNone arming).2.entries, e.kind = .create → e.handle = 0#16) ∧
    (¬ failed → (applyBatch rt edits .each arming).2.outcome = .complete ∧
      (applyBatch rt edits .allOrNone arming).1 = tableAfter rt edits ∧
      (applyBatch rt edits .allOrNone arming).2.outcome = .complete ∧
      (applyBatch rt edits .allOrNone arming).2.entries = (applyBatch rt edits .each arming).2.entries)

/-- CREATE at apply: PROTECTED, DEST_BUSY, TABLE_FULL in this order, else a LIVE record in the lowest FREE slot, its map entry and its
handle (R21, R24, R29, R32, R50). -/
def Obligations.CreateTakesTheLowestFreeSlot : Prop :=
  ∀ (rt : RouteTable) (d : Fin 192) (leg : Leg) (b : Option Backup),
    (Guarded rt d → applyEdit rt (.create d leg b) = ⟨.guarded, 0#16, rt⟩) ∧
    (¬ Guarded rt d → rt.destMap[d] ≠ none → applyEdit rt (.create d leg b) = ⟨.destBusy, 0#16, rt⟩) ∧
    (¬ Guarded rt d → rt.destMap[d] = none → (∀ i : Fin 160, rt.slots[i].record ≠ none) →
      applyEdit rt (.create d leg b) = ⟨.tableFull, 0#16, rt⟩) ∧
    ∀ i : Fin 160, ¬ Guarded rt d → rt.destMap[d] = none → rt.slots[i].record = none →
      (∀ j : Fin 160, j < i → rt.slots[j].record ≠ none) →
      ∃ rt' : RouteTable, ∃ h : Handle, applyEdit rt (.create d leg b) = ⟨.applied, h, rt'⟩ ∧
        h.toNat = rt.slots[i].gen.toNat * 256 + i.val ∧
        rt'.slots[i] = ⟨rt.slots[i].gen, some
          { dest := d, current := { leg with retire := false }, phase := .live, primary := leg.source, backup := b,
            onBackup := false, clip := false, notices := ⟨false, false, false⟩ }⟩ ∧
        (∀ j : Fin 160, j ≠ i → rt'.slots[j] = rt.slots[j]) ∧ rt'.destMap[d] = some i ∧
        (∀ e : Fin 192, e ≠ d → rt'.destMap[e] = rt.destMap[e]) ∧
        rt' = { rt with slots := rt'.slots, destMap := rt'.destMap }

/-- MODIFY at apply: STALE, PROTECTED, ROUTE_RETIRING in this order, else the leg change: the latest leg with the named fields
replaced; a named source becomes the primary and clears on-backup (R17, R18, R25, R32, R51, R64 to R66). -/
def Obligations.ModifyChangesTheLeg : Prop :=
  ∀ (rt : RouteTable) (h : Handle) (p : LegPatch),
    ((160 ≤ h.toNat % 256 ∨ HandleStale rt h) → applyEdit rt (.modify h p) = ⟨.stale, h, rt⟩) ∧
    ∀ (i : Fin 160) (r : Record), HandleNames rt h i r →
      (Guarded rt r.dest → applyEdit rt (.modify h p) = ⟨.guarded, h, rt⟩) ∧
      (¬ Guarded rt r.dest → Retiring r → applyEdit rt (.modify h p) = ⟨.routeRetiring, h, rt⟩) ∧
      (¬ Guarded rt r.dest → ¬ Retiring r → ∀ latest : Leg,
        (latest = match r.phase with
          | .ramping _ (some next) => next
          | .ramping _ none => r.current
          | .live => r.current
          | .retiring _ => r.current) →
        ∃ rt', applyEdit rt (.modify h p) = ⟨if r.phase = .live then .applied else .deferred, h, rt'⟩ ∧
          LegChanged rt rt' i
            (match p.source with
              | none => r
              | some src => { r with primary := src, onBackup := false })
            { source := p.source.getD latest.source, mantissa := p.mantissa.getD latest.mantissa,
              boost := p.boost.getD latest.boost, delay := p.delay.getD latest.delay, code := p.code.getD latest.code,
              retire := false })

/-- RETIRE at apply: STALE, PROTECTED, ALREADY for a RETIRING record, else the retire leg: SILENCE with the latest leg's mantissa, boost
and delay and the edit's ramp code; with code 0 a LIVE record becomes FREE at once (R23, R25, R26, R32, R52). REVERT: STALE, PROTECTED,
ROUTE_RETIRING, NOT_ON_BACKUP in this order, else the latest leg on the primary source with the failover ramp code is brought in and
on-backup is cleared; the notices stay (R32, R53, R80). -/
def Obligations.RetireAndRevertChangeTheLeg : Prop :=
  (∀ (rt : RouteTable) (h : Handle) (code : Fin 8),
    ((160 ≤ h.toNat % 256 ∨ HandleStale rt h) → applyEdit rt (.retire h code) = ⟨.stale, h, rt⟩) ∧
    ∀ (i : Fin 160) (r : Record), HandleNames rt h i r →
      (Guarded rt r.dest → applyEdit rt (.retire h code) = ⟨.guarded, h, rt⟩) ∧
      (¬ Guarded rt r.dest → Retiring r → applyEdit rt (.retire h code) = ⟨.already, h, rt⟩) ∧
      (¬ Guarded rt r.dest → ¬ Retiring r →
        ∃ rt', applyEdit rt (.retire h code) = ⟨if r.phase = .live then .applied else .deferred, h, rt'⟩ ∧
          LegChanged rt rt' i r { latestLeg r with source := .silence, code := code, retire := true })) ∧
  (∀ (rt : RouteTable) (h : Handle),
    ((160 ≤ h.toNat % 256 ∨ HandleStale rt h) → applyEdit rt (.revert h) = ⟨.stale, h, rt⟩) ∧
    ∀ (i : Fin 160) (r : Record), HandleNames rt h i r →
      (Guarded rt r.dest → applyEdit rt (.revert h) = ⟨.guarded, h, rt⟩) ∧
      (¬ Guarded rt r.dest → Retiring r → applyEdit rt (.revert h) = ⟨.routeRetiring, h, rt⟩) ∧
      (¬ Guarded rt r.dest → ¬ Retiring r → r.onBackup = false → applyEdit rt (.revert h) = ⟨.notOnBackup, h, rt⟩) ∧
      ∀ b : Backup, ¬ Guarded rt r.dest → ¬ Retiring r → r.onBackup = true → r.backup = some b →
        ∃ rt', applyEdit rt (.revert h) = ⟨if r.phase = .live then .applied else .deferred, h, rt'⟩ ∧
          LegChanged rt rt' i { r with onBackup := false }
            { latestLeg r with source := r.primary, code := b.code, retire := false })

/-- BATCH_APPLY: the due slots of the queue are applied in arming order, each on the table the earlier ones left; each becomes DONE with
its result and leaves the queue. Every other slot keeps its place and its contents (R6, R11, R28, R42, R49, R56). -/
def Obligations.BatchApplyAppliesTheDueSlots : Prop :=
  ∀ s : State, s.rstLow = false → EditOk s.edit →
    ∃ es : EditStage, DoneWith .batchApply s { s with edit := es, route := tableAfterSlots s.edit s.route s.edit.queue } ∧
      es.nextArming = s.edit.nextArming ∧ es.queue = s.edit.queue.filter (fun i => !isDue s.edit.slots[i]) ∧
      (∀ i : Fin 4, isDue s.edit.slots[i] = false → es.slots[i] = s.edit.slots[i]) ∧
      ∀ (before after : List (Fin 4)) (i : Fin 4) (edits : List ListedEdit) (mode : BatchMode) (t : Timing) (arming : Byte),
        s.edit.queue = before ++ i :: after → s.edit.slots[i] = .armed edits mode t arming → t.due = true →
        es.slots[i] = .done (applyBatch (tableAfterSlots s.edit s.route before) edits mode arming).2

/-- CLEAR_ALL_EXECUTE: a pending CLEAR_ALL gives every LIVE or RAMPING record a retire leg of ramp code 1, but for guarded ports when
it has no force, frees the OPEN and ARMED slots, empties the queue and is no longer pending (R32, R60 to R62). With none pending nothing
happens: the model's choice for the row commanded alone (log 3). -/
def Obligations.ClearAllRetiresTheTable : Prop :=
  (∀ s : State, s.rstLow = false → s.route.clearAll = none → exec .clearAllExecute s = .next s) ∧
  ∀ (s : State) (force : Bool), s.rstLow = false → s.route.clearAll = some force →
    ∃ (rt : RouteTable) (es : EditStage), DoneWith .clearAllExecute s { s with route := rt, edit := es } ∧
      rt = { s.route with slots := rt.slots, clearAll := none } ∧
      es.queue = [] ∧ es.nextArming = s.edit.nextArming ∧
      (∀ i : Fin 4, es.slots[i] = match s.edit.slots[i] with
        | .done r => .done r
        | .free => .free
        | .opened _ => .free
        | .armed .. => .free) ∧
      ∀ i : Fin 160, rt.slots[i] = ⟨s.route.slots[i].gen, s.route.slots[i].record.map fun r =>
        if Guarded s.route r.dest ∧ force = false then r
        else match r.phase with
          | .retiring _ => r
          | .live => { r with
              current := { r.current with source := .silence, code := 1, retire := true }
              phase := .retiring ⟨r.current, 32, 0⟩ }
          | .ramping ramp none => { r with
              phase := .ramping ramp (some { r.current with source := .silence, code := 1, retire := true }) }
          | .ramping ramp (some next) => { r with
              phase := .ramping ramp (some { next with source := .silence, code := 1, retire := true }) }⟩

/-- Switch points: a REF_FRAME pulse counts for REF, a line event of the lane's switch line (a pending SET_LANE already in force) for
that lane; a batch whose count reaches 0 is due in the same event and is counted no more (R7 to R10, R12). No other command changes a
batch that stays ARMED. BATCH_DUE is that event for one slot, and does nothing on a slot it would not make due (log 3). -/
def Obligations.SwitchPointsCountBatchesDown : Prop :=
  let counted (t : Timing) : Timing :=
    if t.due then t else ⟨t.source, t.remaining - 1, decide (t.remaining ≤ 1)⟩
  (∀ (s : State) (src : TimingSource) (e : Instr),
    s.rstLow = false →
    (e = .refFramePulse ∧ src = .ref ∨ ∃ (n : Fin 8) (line : Nat) (words : List Word), e = .inputLineEvent n line words ∧
      line ≤ 2047 ∧ src = .lane n ∧ line = (s.lanes[n].pendingSettings.getD s.lanes[n].settings).switchLine) →
    ∃ t, exec e s = .next t ∧ t.edit.queue = s.edit.queue ∧ t.edit.nextArming = s.edit.nextArming ∧
      ∀ i : Fin 4, t.edit.slots[i] = match s.edit.slots[i] with
        | .armed edits mode tm arming => .armed edits mode (if tm.source = src then counted tm else tm) arming
        | .free => .free
        | .opened edits => .opened edits
        | .done r => .done r) ∧
  (∀ (s : State) (n : Fin 8) (line : Nat) (words : List Word), s.rstLow = false → line ≤ 2047 →
    line ≠ (s.lanes[n].pendingSettings.getD s.lanes[n].settings).switchLine →
    ∃ t, exec (.inputLineEvent n line words) s = .next t ∧ t.edit = s.edit) ∧
  (∀ (c : Instr) (s t : State) (i : Fin 4), exec c s = .next t → c ≠ .refFramePulse → (∀ n line words, c ≠ .inputLineEvent n line words) →
    c ≠ .batchDue i → isArmed s.edit.slots[i] = true → isArmed t.edit.slots[i] = true → t.edit.slots[i] = s.edit.slots[i]) ∧
  ∀ (s : State) (i : Fin 4), s.rstLow = false → BatchSlotOk s.edit.slots[i] →
    (∀ edits mode tm arming, s.edit.slots[i] = .armed edits mode tm arming → tm.remaining = 1 →
      ∃ es : EditStage, DoneWith (.batchDue i) s { s with edit := es } ∧ es = { s.edit with slots := es.slots } ∧
        es.slots[i] = .armed edits mode ⟨tm.source, 0, true⟩ arming ∧ ∀ j : Fin 4, j ≠ i → es.slots[j] = s.edit.slots[j]) ∧
    ((∀ edits mode tm arming, s.edit.slots[i] = .armed edits mode tm arming → tm.remaining ≠ 1) →
      exec (.batchDue i) s = .next s)

/-! ## Ramps and failover -/

/-- A leg brought in on a LIVE record with ramp code c fades over R = 2 ^ (c + 4) ticks: after k of them the position is k, after R of
them the record is LIVE on the new leg alone, or FREE after a retire leg (R64, R65, R67 to R69). Step 5 of one tick: a queued leg is kept
while k goes up, and is brought in as on a LIVE record when k reaches R (R67, R68). RAMP_END and RETIRE_RAMP_END are the
last of these ticks for one record: a queued leg is brought in as on a LIVE record, a retired record becomes FREE; before the last
position they do nothing, the model's choice for a row commanded alone (log 3). -/
def Obligations.RampsRunTheirLength : Prop :=
  (∀ (r : Record) (leg : Leg), r.phase = .live → leg.code.val ≠ 0 → ∃ r', bringIn r leg = some r' ∧
    (∀ k, k < 2 ^ (leg.code.val + 4) → advanceTimes k r' = some { r with
      current := leg
      phase := if leg.retire then .retiring ⟨r.current, 2 ^ (leg.code.val + 4), k⟩
        else .ramping ⟨r.current, 2 ^ (leg.code.val + 4), k⟩ none }) ∧
    advanceTimes (2 ^ (leg.code.val + 4)) r' = if leg.retire then none else some { r with current := leg, phase := .live }) ∧
  (∀ r : Record, r.phase = .live → advanceTimes 1 r = some r) ∧
  (∀ (r : Record) (ramp : Ramp) (next : Option Leg), r.phase = .ramping ramp next →
    (ramp.position + 1 < ramp.length →
      advanceTimes 1 r = some { r with phase := .ramping { ramp with position := ramp.position + 1 } next }) ∧
    (ramp.position + 1 = ramp.length → advanceTimes 1 r = match next with
      | none => some { r with phase := .live }
      | some leg =>
        if leg.code.val = 0 then if leg.retire then none else some { r with current := leg, phase := .live }
        else some { r with
          current := leg
          phase := if leg.retire then .retiring ⟨r.current, 2 ^ (leg.code.val + 4), 0⟩
            else .ramping ⟨r.current, 2 ^ (leg.code.val + 4), 0⟩ none })) ∧
  (∀ (r : Record) (ramp : Ramp), r.phase = .retiring ramp →
    (ramp.position + 1 < ramp.length →
      advanceTimes 1 r = some { r with phase := .retiring { ramp with position := ramp.position + 1 } }) ∧
    (ramp.position + 1 = ramp.length → advanceTimes 1 r = none)) ∧
  (∀ (i : Fin 160) (r : Record) (ramp : Ramp) (next : Option Leg) (s : State), s.rstLow = false →
    s.route.slots[i].record = some r → r.phase = .ramping ramp next →
    (ramp.position + 1 < ramp.length → exec (.rampEnd i) s = .next s) ∧
    (ramp.position + 1 = ramp.length → ∃ rt, DoneWith (.rampEnd i) s { s with route := rt } ∧
      match next with
      | none => SlotHolds s.route rt i { r with phase := .live }
      | some leg => LegChanged s.route rt i { r with phase := .live } leg)) ∧
  ∀ (i : Fin 160) (r : Record) (ramp : Ramp) (s : State), s.rstLow = false →
    s.route.slots[i].record = some r → r.phase = .retiring ramp →
    (ramp.position + 1 < ramp.length → exec (.retireRampEnd i) s = .next s) ∧
    (ramp.position + 1 = ramp.length →
      ∃ rt, DoneWith (.retireRampEnd i) s { s with route := rt } ∧ SlotFreed s.route rt i r.dest)

/-- FAILOVER_TRIGGER: the entry leaves the set, and every record is judged by itself. A candidate whose primary and latest leg read the
source, with that trigger on, takes a usable backup (on a queued leg, or as a failover leg by the leg-change rule) with on-backup and
FAILOVER_TAKEN, or gets BACKUP_UNUSABLE; a record on a backup that is LOST gets BACKUP_LOST; nothing else changes (R70 to R79). An
entry that is not in the set does nothing (log 3). -/
def Obligations.FailoverTriggerJudgesEveryRecord : Prop :=
  ∀ (n : Fin 192) (kind : TriggerKind) (s : State), s.rstLow = false →
    let inSet := match kind with
      | .lost => s.route.pendingLost[n]
      | .quiet => s.route.pendingQuiet[n]
    (inSet = false → exec (.failoverTrigger n kind) s = .next s) ∧
    (inSet = true → ∃ rt : RouteTable, DoneWith (.failoverTrigger n kind) s { s with route := rt } ∧
      rt = { s.route with slots := rt.slots, pendingLost := rt.pendingLost, pendingQuiet := rt.pendingQuiet } ∧
      (∀ m : Fin 192, rt.pendingLost[m] = (s.route.pendingLost[m] && !(kind == .lost && m == n)) ∧
        rt.pendingQuiet[m] = (s.route.pendingQuiet[m] && !(kind == .quiet && m == n))) ∧
      (∀ i : Fin 160, s.route.slots[i].record = none → rt.slots[i] = s.route.slots[i]) ∧
      ∀ (i : Fin 160) (r : Record), s.route.slots[i].record = some r →
        ∃ r' : Record, rt.slots[i] = ⟨s.route.slots[i].gen, some r'⟩ ∧
          FailedOver s.monitor.sources (fun m => kind == .lost && m == n) (fun m => kind == .quiet && m == n) r r')

/-! ## The sample tick -/

/-- SAMPLE_TICK at the Lane Engines, the Desk Ports, the Alert Controller and the link: the bundles are judged by the map, and the
frames pushed and shifted out hold the destination samples, as the previous tick left them; presence and pulse counts go on; the sequence
reference of an input bundle becomes NONE when the feed of either of its sources ends, and nothing else of it changes; the link does
nothing (R6, R89, R117, R118, R127, R135, R136, R152, R159). -/
def Obligations.TickHandsOverThePreviousTicksWork : Prop :=
  ∀ (desk : List DeskArrival) (s : State), wellFormed (.sampleTick desk) = true → s.rstLow = false →
    ∃ u : State, DoneWith (.sampleTick desk) s u ∧ u.link = s.link ∧ u.rstLow = false ∧ u.windowTicked = true ∧
      u.alert = { s.alert with pulse := match s.alert.pulse with
        | none => none
        | some c => if c ≤ 1 then none else some (c - 1) } ∧
      (∀ (n j : Fin 8) (a b : Fin 192), a.val = n.val * 16 + j.val * 2 → b.val = n.val * 16 + j.val * 2 + 1 →
        u.lanes[n].outBundles[j] =
          if s.route.destMap[a] = none ∧ s.route.destMap[b] = none then
            { s.lanes[n].outBundles[j] with
              activity := if s.lanes[n].outBundles[j].activity = .inactive then .inactive else .closing }
          else if s.lanes[n].outBundles[j].fifo.length < 16 then
            { s.lanes[n].outBundles[j] with
              activity := .active
              fifo := s.lanes[n].outBundles[j].fifo ++ [⟨s.route.destSamples[a], s.route.destSamples[b]⟩] }
          else
            { s.lanes[n].outBundles[j] with
              activity := .active, overflow := min (s.lanes[n].outBundles[j].overflow + 1) 65535 }) ∧
      (∀ n : Fin 8,
        (s.lanes[n].presence = .absent → u.lanes[n].presence = .absent ∧ u.lanes[n].changeFlag = s.lanes[n].changeFlag) ∧
        (∀ c, s.lanes[n].presence = .present c → c + 1 < 240 →
          u.lanes[n].presence = .present (c + 1) ∧ u.lanes[n].changeFlag = s.lanes[n].changeFlag) ∧
        (∀ c, s.lanes[n].presence = .present c → 240 ≤ c + 1 →
          u.lanes[n].presence = .absent ∧ u.lanes[n].changeFlag = true) ∧
        u.lanes[n] = { s.lanes[n] with
          presence := u.lanes[n].presence, changeFlag := u.lanes[n].changeFlag
          inBundles := u.lanes[n].inBundles, outBundles := u.lanes[n].outBundles }) ∧
      (∀ (n j : Fin 8) (a b : Fin 192), a.val = n.val * 16 + j.val * 2 → b.val = n.val * 16 + j.val * 2 + 1 →
        (FeedEnds s.monitor.sources[a] ∨ FeedEnds s.monitor.sources[b] →
          u.lanes[n].inBundles[j] = { s.lanes[n].inBundles[j] with seqRef := none }) ∧
        (¬ FeedEnds s.monitor.sources[a] → ¬ FeedEnds s.monitor.sources[b] → u.lanes[n].inBundles[j] = s.lanes[n].inBundles[j])) ∧
      u.desk.clock = true ∧ u.desk.framing = true ∧
      (∀ p : Fin 4, u.desk.outs[p].enabled = s.desk.outs[p].enabled ∧ ∀ (k : Fin 16) (d : Fin 192), d.val = 128 + p.val * 16 + k.val →
        u.desk.outs[p].frame[k] = if s.desk.outs[p].enabled then s.route.destSamples[d] else 0#24) ∧
      ∀ p : Fin 4, u.desk.ins[p] = ⟨s.desk.ins[p].enabled, if s.desk.ins[p].enabled then .shifting else .nothing⟩

/-- SAMPLE_TICK at the Route Table and the Edit Stage: step 3 takes all the entries pending before the tick together and judges every
record by itself, on the table that steps 1 and 2 leave, and by the sources as the previous tick's work and the events since left them;
on the table that steps 1 to 3 leave, every destination gets its record's
sample or 0 and its meter takes it; clip is set on saturation; step 5 moves every ramp on by one and frees the records whose retire
ramp ends, with their map entries; the triggers taken are gone (R19, R26, R28, R29, R67, R70 to R78, R85, R89, R90). -/
def Obligations.TickComputesEveryDestination : Prop :=
  ∀ (desk : List DeskArrival) (s : State), wellFormed (.sampleTick desk) = true → s.rstLow = false →
    ((tableAtStep4 s).destMap = (tableAtStep3 s).destMap ∧
      (∀ i : Fin 160, (tableAtStep3 s).slots[i].record = none → (tableAtStep4 s).slots[i] = (tableAtStep3 s).slots[i]) ∧
      ∀ (i : Fin 160) (r : Record), (tableAtStep3 s).slots[i].record = some r →
        ∃ r' : Record, (tableAtStep4 s).slots[i] = ⟨(tableAtStep3 s).slots[i].gen, some r'⟩ ∧
          FailedOver s.monitor.sources (fun n => s.route.pendingLost[n]) (fun n => s.route.pendingQuiet[n]) r r') ∧
    ∃ u : State, DoneWith (.sampleTick desk) s u ∧
      (∀ d : Fin 192, u.route.destSamples[d] =
          (match (tableAtStep4 s).destMap[d] with
          | none => 0#24
          | some i => match (tableAtStep4 s).slots[i].record with
            | none => 0#24
            | some r => recordSample s.monitor.sources r) ∧
        u.route.destMeters[d] = { s.route.destMeters[d] with
          running := max s.route.destMeters[d].running (min u.route.destSamples[d].toInt.natAbs 8388607) }) ∧
      (∀ i : Fin 160, u.route.slots[i] = match (tableAtStep4 s).slots[i].record with
        | none => (tableAtStep4 s).slots[i]
        | some r => match advanceTimes 1 { r with clip := r.clip || recordSaturates s.monitor.sources r } with
          | some r' => ⟨(tableAtStep4 s).slots[i].gen, some r'⟩
          | none => ⟨if (tableAtStep4 s).slots[i].gen = 255#8 then 1#8 else (tableAtStep4 s).slots[i].gen + 1#8, none⟩) ∧
      (∀ d : Fin 192, u.route.destMap[d] = match (tableAtStep4 s).destMap[d] with
        | none => none
        | some i => if (tableAtStep4 s).slots[i].record ≠ none ∧ u.route.slots[i].record = none then none else some i) ∧
      u.route.guards = s.route.guards ∧ u.route.clearAll = none ∧ (∀ n : Fin 192, u.route.pendingQuiet[n] = false) ∧
      u.edit = (applyDue (carryOutClearAll s.route s.edit).1 (carryOutClearAll s.route s.edit).2).2

/-- SAMPLE_TICK at the Source Monitor: every ring takes exactly one sample, 0 when the source is not RUNNING, and older samples move on by
one; a source that is RUNNING or becomes so writes the sample at the head of its FIFO to its ring and keeps the rest, with the sample
a desk port pushes behind it, or counted at a FIFO found full; a RUNNING source with an empty FIFO becomes STARVED, and one whose feed
ends becomes IDLE, or PRIMING with what stands behind the close mark; the LOST entries are those of the sources that became LOST; a
desk frame pushed at a source that is IDLE or priming stands in its FIFO, whichever order its push and the work are taken in; a desk
source that holds 7 entries becomes RUNNING when the eighth is pushed first, and holds 8 when the work is first. `Worked` gives the
whole work of a source case by case, those that only wait among them, and `TickedWith` the order of push and work (R70, R83, R96 to
R102, R104). -/
def Obligations.TickFeedsEveryRing : Prop :=
  ∀ (desk : List DeskArrival) (s : State), wellFormed (.sampleTick desk) = true → s.rstLow = false → MonitorOk s.monitor →
    ∃ u : State, DoneWith (.sampleTick desk) s u ∧ u.monitor.settings = s.monitor.settings ∧
      ∀ n : Fin 192,
        (∀ d, d < 4095 → readRing u.monitor.sources[n].ring (d + 1) = readRing s.monitor.sources[n].ring d) ∧
        (u.monitor.sources[n].state ≠ .running → readRing u.monitor.sources[n].ring 0 = 0#24) ∧
        u.monitor.sources[n].meter = { s.monitor.sources[n].meter with
          running := max s.monitor.sources[n].meter.running
            (min (readRing u.monitor.sources[n].ring 0).toInt.natAbs 8388607) } ∧
        (u.route.pendingLost[n] = true ↔ s.monitor.sources[n].state ≠ .lost ∧ u.monitor.sources[n].state = .lost) ∧
        (n.val < 128 → u.monitor.sources[n] = workTimes s.monitor.settings 1 s.monitor.sources[n]) ∧
        u.monitor.sources[n].changeEnable = s.monitor.sources[n].changeEnable ∧
        TickedWith s.desk desk s.monitor.settings n s.monitor.sources[n] u.monitor.sources[n] ∧
        (∀ (p : Fin 4) (a : DeskArrival) (x y : Sample) (rest : List Arrival), deskPortOf n = some p → desk[p.val]? = some a →
          Waits s.monitor.sources[n] → s.monitor.sources[n].fifo = .sample x :: rest → rest.length = 6 →
          deskPushed s.desk.ins[p] a.frame ((n.val - 128) % 16) = [.sample y] →
          (a.pushFirst = true → u.monitor.sources[n].state = .running ∧ readRing u.monitor.sources[n].ring 0 = x ∧
            u.monitor.sources[n].fifo = rest ++ [.sample y]) ∧
          (a.pushFirst = false → u.monitor.sources[n].state ≠ .running ∧
            u.monitor.sources[n].fifo = .sample x :: (rest ++ [.sample y]))) ∧
        (∀ x rest, TakesHead s.monitor.sources[n] → s.monitor.sources[n].fifo = .sample x :: rest →
          u.monitor.sources[n].state = .running ∧ readRing u.monitor.sources[n].ring 0 = x ∧
          (n.val < 128 → u.monitor.sources[n].fifo = rest ∧ u.monitor.sources[n].overrun = s.monitor.sources[n].overrun) ∧
          ∀ (p : Fin 4) (a : DeskArrival), deskPortOf n = some p → desk[p.val]? = some a →
            if a.pushFirst = true ∧ 15 ≤ rest.length ∧ s.desk.ins[p].shift ≠ .nothing then
              u.monitor.sources[n].fifo = rest ∧ u.monitor.sources[n].overrun = min (s.monitor.sources[n].overrun + 1) 65535
            else u.monitor.sources[n].fifo = rest ++ deskPushed s.desk.ins[p] a.frame ((n.val - 128) % 16) ∧
              u.monitor.sources[n].overrun = s.monitor.sources[n].overrun) ∧
        (n.val < 128 → s.monitor.sources[n].state = .running → s.monitor.sources[n].fifo = [] →
          u.monitor.sources[n].state = .starved ∧
            u.monitor.sources[n].underrun = min (s.monitor.sources[n].underrun + 1) 65535) ∧
        (∀ before rest, n.val < 128 → FeedEnds s.monitor.sources[n] → s.monitor.sources[n].fifo = before ++ .closeMark :: rest →
          .closeMark ∉ before → u.monitor.sources[n].state = (if rest = [] then .idle else .priming) ∧
            u.monitor.sources[n].fifo = rest) ∧
        ∀ (p : Fin 4) (a : DeskArrival) (frame : List Sample), deskPortOf n = some p → desk[p.val]? = some a →
          (s.desk.ins[p].shift = .shifting ∧ frame = a.frame ∨ s.desk.ins[p].shift = .held frame) →
          (s.monitor.sources[n].state = .idle ∨ s.monitor.sources[n].state = .priming) →
          s.monitor.sources[n].fifo.length ≤ 6 →
          u.monitor.sources[n].state = .priming ∧
            u.monitor.sources[n].fifo = s.monitor.sources[n].fifo ++ [.sample (frame.getD ((n.val - 128) % 16) 0#24)]

/-! ## Arithmetic -/

/-- Stage 1 (R84): the rounded quotient of a leg is the largest whole number not greater than (x × m × 2^b + 16384) / 32768, exactly,
halves toward the larger number, 0 for a mantissa or a sample of 0. -/
def Obligations.LegProductIsRoundedExactly : Prop :=
  ∀ (sources : Vector Source 192) (leg : Leg) (x : Int),
    (leg.source = .silence ∧ x = 0 ∨
      ∃ n : Fin 192, leg.source = .track n ∧ x = (readRing sources[n].ring leg.delay.val).toInt) →
    let q : Int := x * leg.mantissa.toInt * 2 ^ leg.boost.val
    let y : Int := legQuotient sources leg
    y * 32768 ≤ q + 16384 ∧ q + 16384 < (y + 1) * 32768 ∧ q.natAbs ≤ 2 ^ 40 ∧
      (leg.mantissa = 0#16 → y = 0) ∧ (x = 0 → y = 0) ∧ (∀ k : Int, q = 32768 * k + 16384 → y = k + 1)

/-- A quotient out of the 24-bit range is replaced by the bound it passed, and that alone is a saturation (R85). With a fading leg the
sample is blended by the exact weight w = k × 32768 / R below 32768, rounded to the largest whole number; it lies between the two
products, is the fading product at w = 0, and so needs no limit; without one it is the current product (R86 to R88). -/
def Obligations.BlendStaysBetweenTheProducts : Prop :=
  (∀ y : Int, (8388607 < y → saturate y = 8388607 ∧ saturates y = true) ∧
    (y < -8388608 → saturate y = -8388608 ∧ saturates y = true) ∧
    (-8388608 ≤ y → y ≤ 8388607 → saturate y = y ∧ saturates y = false)) ∧
  (∀ (cur fade w : Int), 0 ≤ w → w ≤ 32768 →
    blend cur fade w * 32768 ≤ cur * w + fade * (32768 - w) + 16384 ∧
    cur * w + fade * (32768 - w) + 16384 < (blend cur fade w + 1) * 32768 ∧
    min cur fade ≤ blend cur fade w ∧ blend cur fade w ≤ max cur fade ∧ blend cur fade 0 = fade ∧ blend cur cur w = cur) ∧
  (∀ ramp : Ramp, RampOk ramp → rampWeight ramp * ramp.length = ramp.position * 32768 ∧ rampWeight ramp < 32768) ∧
  ∀ (sources : Vector Source 192) (r : Record), RecordOk r →
    (recordSample sources r).toInt =
      (match r.phase with
      | .live => saturate (legQuotient sources r.current)
      | .ramping ramp _ => blend (saturate (legQuotient sources r.current)) (saturate (legQuotient sources ramp.fading))
          (rampWeight ramp)
      | .retiring ramp => blend 0 (saturate (legQuotient sources ramp.fading)) (rampWeight ramp)) ∧
    recordSaturates sources r =
      (saturates (legQuotient sources r.current) || match r.phase with
        | .live => false
        | .ramping ramp _ | .retiring ramp => saturates (legQuotient sources ramp.fading))

/-- REF_FRAME_PULSE: an empty window leaves every meter and every quiet count; else every meter latches, and every RUNNING source is
assessed by the level code just computed: at Q or above its count goes up and it enters QUIET when the count reaches F, with its trigger
entry and its edge; below Q it leaves QUIET (R7, R8, R70, R91, R94, R110). QUIET_ENTERED is that entry for one source; commanded alone it
uses the level code last latched, the model's choice (log 15), and does nothing at a source that does not enter (log 3). -/
def Obligations.PulseClosesTheWindow : Prop :=
  (∀ s : State, s.rstLow = false → ∃ u : State, DoneWith .refFramePulse s u ∧
    u = { s with route := u.route, edit := u.edit, monitor := u.monitor, windowTicked := false } ∧
    u.monitor.settings = s.monitor.settings ∧
    u.route = { s.route with destMeters := u.route.destMeters, pendingQuiet := u.route.pendingQuiet } ∧
    (s.windowTicked = false → u.route = s.route ∧ u.monitor = s.monitor) ∧
    (s.windowTicked = true →
      (∀ d : Fin 192, MeterLatched s.route.destMeters[d] u.route.destMeters[d]) ∧
      ∀ n : Fin 192, MeterLatched s.monitor.sources[n].meter u.monitor.sources[n].meter ∧
        let entered : Prop := s.monitor.sources[n].state = .running ∧
          s.monitor.settings.quietLevel ≤ u.monitor.sources[n].meter.level ∧ s.monitor.sources[n].quiet = false ∧
          s.monitor.settings.quietFrames ≤ min (s.monitor.sources[n].quietCount + 1) 255
        let left : Prop := s.monitor.sources[n].state = .running ∧
          u.monitor.sources[n].meter.level < s.monitor.settings.quietLevel ∧ s.monitor.sources[n].quiet = true
        (u.route.pendingQuiet[n] = true ↔ s.route.pendingQuiet[n] = true ∨ entered) ∧
        u.monitor.sources[n] = { s.monitor.sources[n] with
          meter := u.monitor.sources[n].meter
          quietCount :=
            if s.monitor.sources[n].state ≠ .running then s.monitor.sources[n].quietCount
            else if s.monitor.settings.quietLevel ≤ u.monitor.sources[n].meter.level then
              min (s.monitor.sources[n].quietCount + 1) 255
            else 0
          quiet := decide (entered ∨ s.monitor.sources[n].quiet = true ∧ ¬ left)
          changeFlag := decide (s.monitor.sources[n].changeFlag = true ∨ s.monitor.sources[n].changeEnable = true ∧
            (entered ∧ s.monitor.settings.quietEdges ≠ .leave ∨ left ∧ s.monitor.settings.quietEdges ≠ .enter)) })) ∧
  (∀ (n : Fin 192) (s : State), s.rstLow = false →
    let src := s.monitor.sources[n]
    let enters : Prop := src.state = .running ∧ src.quiet = false ∧ s.monitor.settings.quietLevel ≤ src.meter.level ∧
      s.monitor.settings.quietFrames ≤ min (src.quietCount + 1) 255
    (¬ enters → exec (.quietEntered n) s = .next s) ∧
    (enters → ∃ (m : SourceMonitor) (q : Vector Bool 192),
      DoneWith (.quietEntered n) s { s with monitor := m, route := { s.route with pendingQuiet := q } } ∧
      m.settings = s.monitor.settings ∧ (∀ k : Fin 192, k ≠ n → m.sources[k] = s.monitor.sources[k]) ∧
      m.sources[n] = { src with
        quietCount := min (src.quietCount + 1) 255
        quiet := true
        changeFlag := src.changeFlag || (src.changeEnable && s.monitor.settings.quietEdges != .leave) } ∧
      ∀ k : Fin 192, q[k] = (s.route.pendingQuiet[k] || k == n)))

/-! ## The Source Monitor -/

/-- SOURCE_RUNNING: a waiting source with 8 or more entries becomes RUNNING and plays the oldest, its loss timer stopped. CLOSE_MARK_TAKEN:
a feed that ends makes its source IDLE, or PRIMING with what stands behind the mark, and the bundle's sequence reference NONE.
A waiting source with 8 or more entries whose head is a close mark becomes RUNNING and takes it, by either row. LOSS_TIMER_EXPIRY: a
STARVED source whose timer reaches 0 becomes LOST and adds its entry. In each the ring takes one sample (R70, R95,
R98 to R102, R107, R110, R127). A source in no such position does nothing: the model's choice for rows commanded alone (log 3). -/
def Obligations.SourceEventsDoTheSourcesWork : Prop :=
  ∀ (n : Fin 192) (s : State), s.rstLow = false →
    let src := s.monitor.sources[n]
    let waiting : Prop := src.state = .priming ∨ src.state = .starved ∨ src.state = .lost
    let lostLeft : Bool := src.state == .lost && src.changeEnable && s.monitor.settings.lostEdges != .enter
    let quietLeft : Bool := src.quiet && src.changeEnable && s.monitor.settings.quietEdges != .enter
    (∀ x rest, waiting → src.fifo = .sample x :: rest → 7 ≤ rest.length →
      ∃ m : SourceMonitor, DoneWith (.sourceRunning n) s { s with monitor := m } ∧ m.settings = s.monitor.settings ∧
        (∀ k : Fin 192, k ≠ n → m.sources[k] = s.monitor.sources[k]) ∧
        m.sources[n] = { src with
          state := .running, fifo := rest, timer := none, ring := writeRing x src.ring
          meter := { src.meter with running := max src.meter.running (min x.toInt.natAbs 8388607) }
          changeFlag := src.changeFlag || lostLeft }) ∧
    (¬ waiting ∨ src.fifo.length < 8 → exec (.sourceRunning n) s = .next s) ∧
    (∀ before rest, (src.state = .running ∧ before = [] ∨
          waiting ∧ before.length + rest.length < 7 ∧ ∀ e ∈ before, e ≠ .closeMark) →
        src.fifo = before ++ .closeMark :: rest →
      ∃ (m : SourceMonitor) (lanes : Vector Lane 8),
        DoneWith (.closeMarkTaken n) s { s with monitor := m, lanes := lanes } ∧ m.settings = s.monitor.settings ∧
        (∀ k : Fin 192, k ≠ n → m.sources[k] = s.monitor.sources[k]) ∧
        m.sources[n] = { src with
          state := if rest = [] then .idle else .priming
          fifo := rest
          ring := writeRing 0#24 src.ring
          timer := if src.state = .running then src.timer else none
          quiet := if src.state = .running then false else src.quiet
          quietCount := if src.state = .running then 0 else src.quietCount
          changeFlag := src.changeFlag || if src.state = .running then quietLeft else lostLeft } ∧
        (∀ a : Fin 8, lanes[a] = { s.lanes[a] with inBundles := lanes[a].inBundles }) ∧
        ∀ a j : Fin 8, lanes[a].inBundles[j] =
          if n.val / 2 = a.val * 8 + j.val then { s.lanes[a].inBundles[j] with seqRef := none } else s.lanes[a].inBundles[j]) ∧
    (¬ FeedEnds src → exec (.closeMarkTaken n) s = .next s) ∧
    (∀ rest, waiting → src.fifo = .closeMark :: rest → 7 ≤ rest.length →
      exec (.closeMarkTaken n) s = exec (.sourceRunning n) s ∧
      ∃ (m : SourceMonitor) (lanes : Vector Lane 8),
        DoneWith (.sourceRunning n) s { s with monitor := m, lanes := lanes } ∧ m.settings = s.monitor.settings ∧
        (∀ k : Fin 192, k ≠ n → m.sources[k] = s.monitor.sources[k]) ∧
        m.sources[n] = { src with
          state := .priming, fifo := rest, ring := writeRing 0#24 src.ring, timer := none, quiet := false, quietCount := 0
          changeFlag := src.changeFlag || lostLeft || quietLeft } ∧
        (∀ a : Fin 8, lanes[a] = { s.lanes[a] with inBundles := lanes[a].inBundles }) ∧
        ∀ a j : Fin 8, lanes[a].inBundles[j] =
          if n.val / 2 = a.val * 8 + j.val then { s.lanes[a].inBundles[j] with seqRef := none } else s.lanes[a].inBundles[j]) ∧
    (src.state = .starved → src.fifo.length < 8 → .closeMark ∉ src.fifo → src.timer = some 1 →
      ∃ (m : SourceMonitor) (q : Vector Bool 192),
        DoneWith (.lossTimerExpiry n) s { s with monitor := m, route := { s.route with pendingLost := q } } ∧
        m.settings = s.monitor.settings ∧ (∀ k : Fin 192, k ≠ n → m.sources[k] = s.monitor.sources[k]) ∧
        m.sources[n] = { src with
          state := .lost, timer := none, underrun := min (src.underrun + 1) 65535, ring := writeRing 0#24 src.ring
          changeFlag := src.changeFlag || (src.changeEnable && s.monitor.settings.lostEdges != .leave) } ∧
        ∀ k : Fin 192, q[k] = (s.route.pendingLost[k] || k == n)) ∧
    (src.state ≠ .starved ∨ src.timer = none ∨ (∃ c, src.timer = some c ∧ 2 ≤ c) →
      exec (.lossTimerExpiry n) s = .next s)

/-- With a loss time of L milliseconds, a RUNNING source whose feed stops starves at the next tick t0 and is LOST at tick t0 + 48 × L and
not before, with 48 × L + 1 underruns counted (saturating); with L = 0 it stays STARVED (R100 to R102, R107). -/
def Obligations.LossTimeIsExact : Prop :=
  ∀ (st : MonitorSettings) (src : Source), src.state = .running → src.fifo = [] →
    (∀ k, k < 48 * st.lossTime → (workTimes st (k + 1) src).state = .starved) ∧
    (1 ≤ st.lossTime → (workTimes st (48 * st.lossTime + 1) src).state = .lost ∧
      (workTimes st (48 * st.lossTime + 1) src).underrun = min (src.underrun + 48 * st.lossTime + 1) 65535) ∧
    (st.lossTime = 0 → ∀ k, (workTimes st (k + 1) src).state = .starved)

/-- READ_SOURCE and READ_LANE answer the image first and clear the counters then, when their flag asks for it; a number out of range is
refused with RANGE (R108, R130, R183). -/
def Obligations.ReadsClearTheirCounters : Prop :=
  (∀ (n : Byte) (clear : Bool) (s : State), HandedOver (.readSource n clear) s →
    (192 ≤ n.toNat → AnsweredWith (.readSource n clear) s ⟨.range, []⟩) ∧
    ∀ k : Fin 192, n.toNat = k.val → ∃ m : SourceMonitor,
      TakenWith (.readSource n clear) s { s with monitor := m }
        ⟨.ok, [match s.monitor.sources[k].state with
            | .idle => 0#8
            | .priming => 1#8
            | .running => 2#8
            | .starved => 3#8
            | .lost => 4#8,
          if s.monitor.sources[k].quiet then 1#8 else 0#8, BitVec.ofNat 8 s.monitor.sources[k].quietCount,
          BitVec.ofNat 8 s.monitor.sources[k].fifo.length] ++ numberCoded s.monitor.sources[k].underrun ++
          numberCoded s.monitor.sources[k].overrun ++ [BitVec.ofNat 8 s.monitor.sources[k].meter.level,
          if s.monitor.sources[k].changeFlag then 1#8 else 0#8, if s.monitor.sources[k].changeEnable then 1#8 else 0#8]⟩ ∧
      m.settings = s.monitor.settings ∧ (∀ j : Fin 192, j ≠ k → m.sources[j] = s.monitor.sources[j]) ∧
      m.sources[k] = if clear then { s.monitor.sources[k] with underrun := 0, overrun := 0 } else s.monitor.sources[k]) ∧
  ∀ (n : Byte) (clear : Bool) (s : State), HandedOver (.readLane n clear) s →
    (8 ≤ n.toNat → AnsweredWith (.readLane n clear) s ⟨.range, []⟩) ∧
    ∀ k : Fin 8, n.toNat = k.val → ∃ (lanes : Vector Lane 8) (img : List Byte),
      TakenWith (.readLane n clear) s { s with lanes := lanes } ⟨.ok, img⟩ ∧ img.length = 57 ∧
      img.take 9 = [if s.lanes[k].presence = .absent then 0#8 else 1#8, if s.lanes[k].changeFlag then 1#8 else 0#8] ++
        numberCoded s.lanes[k].settings.switchLine ++ [s.lanes[k].settings.keepMask,
          BitVec.ofNat 8 s.lanes[k].settings.budget, if s.lanes[k].settings.mode = .fixed then 0#8 else 1#8,
          BitVec.ofNat 8 s.lanes[k].settings.lowest.val, if s.lanes[k].pendingSettings = none then 0#8 else 1#8] ∧
      (img.drop 9).take 8 = numberCoded s.lanes[k].excess ++ numberCoded s.lanes[k].truncated ++
        numberCoded s.lanes[k].checkError ++ numberCoded s.lanes[k].malformed ∧
      (∀ j : Fin 8, (img.drop (17 + 2 * j.val)).take 2 = numberCoded s.lanes[k].inBundles[j].gap ∧
        img[33 + j.val]? = some (match s.lanes[k].outBundles[j].activity with
          | .inactive => 0#8
          | .active => 1#8
          | .closing => 2#8) ∧
        (img.drop (41 + 2 * j.val)).take 2 = numberCoded s.lanes[k].outBundles[j].overflow) ∧
      (∀ m : Fin 8, m ≠ k → lanes[m] = s.lanes[m]) ∧
      (clear = false → lanes[k] = s.lanes[k]) ∧
      (clear = true → lanes[k] = { s.lanes[k] with
          excess := 0, truncated := 0, checkError := 0, malformed := 0
          inBundles := lanes[k].inBundles, outBundles := lanes[k].outBundles } ∧
        ∀ j : Fin 8, lanes[k].inBundles[j] = { s.lanes[k].inBundles[j] with gap := 0 } ∧
          lanes[k].outBundles[j] = { s.lanes[k].outBundles[j] with overflow := 0 })

/-- SET_MONITOR replaces its five settings together or is refused with RANGE; SET_CHANGE_ENABLES replaces the 192 enables. Each answers
what is now in force, and no flag, count or timer changes (R95, R102, R109, R111). -/
def Obligations.MonitorSettingsAreReplaced : Prop :=
  (∀ (l q f le qe : Byte) (s : State), HandedOver (.setMonitor l q f le qe) s →
    (q.toNat < 8 ∨ 23 < q.toNat ∨ f.toNat = 0 ∨ 2 < le.toNat ∨ 2 < qe.toNat →
      AnsweredWith (.setMonitor l q f le qe) s ⟨.range, []⟩) ∧
    ∀ a b : EdgeSelect, 8 ≤ q.toNat → q.toNat ≤ 23 → 1 ≤ f.toNat →
      (le.toNat = 0 ∧ a = .enter ∨ le.toNat = 1 ∧ a = .leave ∨ le.toNat = 2 ∧ a = .both) →
      (qe.toNat = 0 ∧ b = .enter ∨ qe.toNat = 1 ∧ b = .leave ∨ qe.toNat = 2 ∧ b = .both) →
      exec (.setMonitor l q f le qe) s = .next (respond
        { s with monitor := { s.monitor with settings := ⟨l.toNat, q.toNat, f.toNat, a, b⟩ } } ⟨.ok, [l, q, f, le, qe]⟩)) ∧
  ∀ (e : BitVec 192) (s : State), HandedOver (.setChangeEnables e) s → ∃ (m : SourceMonitor) (p : List Byte),
    TakenWith (.setChangeEnables e) s { s with monitor := m } ⟨.ok, p⟩ ∧ m.settings = s.monitor.settings ∧ p.length = 24 ∧
    ∀ (n : Fin 192), m.sources[n] = { s.monitor.sources[n] with changeEnable := e.getLsbD n.val } ∧
      ∃ b, p[n.val / 8]? = some b ∧ b.getLsbD (n.val % 8) = e.getLsbD n.val

/-- ACK_SOURCES clears the change flags it lists, or is refused whole with RANGE; ACK_LANES clears those of its mask and answers the
flags as they stand. The class request goes with the last flag (R110, R113, R118). -/
def Obligations.AcknowledgedFlagsAreCleared : Prop :=
  (∀ (count : Byte) (list : List Byte) (s : State), HandedOver (.ackSources count list) s →
    (count.toNat = 0 ∨ 32 < count.toNat ∨ (∃ b ∈ list, 192 ≤ b.toNat) →
      AnsweredWith (.ackSources count list) s ⟨.range, []⟩) ∧
    (1 ≤ count.toNat → count.toNat ≤ 32 → (∀ b ∈ list, b.toNat < 192) → ∃ m : SourceMonitor,
      TakenWith (.ackSources count list) s { s with monitor := m } ⟨.ok, []⟩ ∧ m.settings = s.monitor.settings ∧
      (∀ n : Fin 192, m.sources[n] = { s.monitor.sources[n] with
        changeFlag := s.monitor.sources[n].changeFlag && !list.any fun b => b.toNat == n.val }) ∧
      ((∀ n : Fin 192, s.monitor.sources[n].changeFlag = true → ∃ b ∈ list, b.toNat = n.val) →
        (requests { s with monitor := m }).source = false))) ∧
  ∀ (mask : Byte) (s : State), HandedOver (.ackLanes mask) s → ∃ (lanes : Vector Lane 8) (b : Byte),
    TakenWith (.ackLanes mask) s { s with lanes := lanes } ⟨.ok, [b]⟩ ∧
    ∀ n : Fin 8, lanes[n] = { s.lanes[n] with changeFlag := s.lanes[n].changeFlag && !mask.getLsbD n.val } ∧
      b.getLsbD n.val = lanes[n].changeFlag

/-- SET_DESK sets the enable of one port and answers all eight; an input port turned off makes its 16 sources IDLE with their FIFOs flushed
and drops the frame it shifts in or holds; an enable of the value it has changes nothing (R105, R106, R153, R185).
DESK_FRAME_IN_PROGRESS_COMPLETED: with WCLK stopped an input port that shifts in a frame holds it, every output port drives 0, and no
frame sync follows (R13, R152, R185). That this row stands for WCLK stopped is the model's reading (log 21), and that it does nothing with no
frame in progress its choice (log 3). -/
def Obligations.DeskPortsFollowTheirEnables : Prop :=
  (∀ (dir port : Byte) (on : Bool) (s : State), HandedOver (.setDesk dir port on) s →
    (2 ≤ dir.toNat ∨ 4 ≤ port.toNat → AnsweredWith (.setDesk dir port on) s ⟨.range, []⟩) ∧
    ∀ p : Fin 4, port.toNat = p.val → dir.toNat ≤ 1 → ∃ (d : Desk) (m : SourceMonitor) (b : Byte),
      TakenWith (.setDesk dir port on) s { s with desk := d, monitor := m } ⟨.ok, [b]⟩ ∧
      (∀ k : Fin 4, b.getLsbD k.val = d.ins[k].enabled ∧ b.getLsbD (4 + k.val) = d.outs[k].enabled) ∧
      d = { s.desk with ins := d.ins, outs := d.outs } ∧ m.settings = s.monitor.settings ∧
      (∀ k : Fin 4, (dir.toNat = 0 ∧ k = p → d.ins[k].enabled = on ∧
          (s.desk.ins[p].enabled = on → d.ins[k] = s.desk.ins[k]) ∧
          (s.desk.ins[p].enabled ≠ on → d.ins[k].shift = .nothing)) ∧
        (¬ (dir.toNat = 0 ∧ k = p) → d.ins[k] = s.desk.ins[k]) ∧
        d.outs[k] = { s.desk.outs[k] with
          enabled := if dir.toNat = 1 ∧ k = p then on else s.desk.outs[k].enabled }) ∧
      ∀ n : Fin 192, m.sources[n] =
        if dir.toNat = 0 ∧ s.desk.ins[p].enabled = true ∧ on = false ∧ 128 ≤ n.val ∧ (n.val - 128) / 16 = p.val then
          { s.monitor.sources[n] with state := .idle, fifo := [], timer := none, quiet := false, quietCount := 0 }
        else s.monitor.sources[n]) ∧
  (∀ (frames : List (List Sample)) (s : State), wellFormed (.deskFrameInProgressCompleted frames) = true → s.rstLow = false →
    (s.desk.framing = false → exec (.deskFrameInProgressCompleted frames) s = .next s) ∧
    (s.desk.framing = true → ∃ d : Desk, exec (.deskFrameInProgressCompleted frames) s = .next { s with desk := d } ∧
      d.framing = false ∧ d.clock = s.desk.clock ∧
      ∀ p : Fin 4, d.outs[p].enabled = s.desk.outs[p].enabled ∧ (∀ k : Fin 16, d.outs[p].frame[k] = 0#24) ∧
        (s.desk.ins[p].shift ≠ .shifting → d.ins[p] = s.desk.ins[p]) ∧
        (s.desk.ins[p].shift = .shifting → ∃ f, frames[p.val]? = some f ∧ d.ins[p] = ⟨s.desk.ins[p].enabled, .held f⟩)))

/-! ## Lanes -/

/-- INPUT_LINE_EVENT at the receive side: settings in force, PRESENT, the words beyond the 64th counted, every packet of the line
classed, counted, sequence-checked and pushed at its two sources, in line order; other lanes and the sources of other lanes are as they
were (R115 to R118, R123, R124, R128, R129, R131). The sequence check: the reference becomes the packet's count, and the gap counter goes
up by one unless the reference was NONE or the count follows it, 255 followed by 0 (R126). The arrivals, one by one in order: a close mark
at an IDLE source is dropped; a sample makes it PRIMING; every other entry joins the end, or is counted as an overrun at 16 entries
(R96, R97). -/
def Obligations.LineEventReceivesEveryPacket : Prop :=
  (∀ (n : Fin 8) (line : Nat) (words : List Word) (s : State), line ≤ 2047 → s.rstLow = false →
    let parsed := parseLine (words.take 64)
    ∃ u : State, DoneWith (.inputLineEvent n line words) s u ∧
      u = { s with lanes := u.lanes, edit := u.edit, monitor := { s.monitor with sources := u.monitor.sources } } ∧
      (∀ m : Fin 8, m ≠ n → u.lanes[m] = s.lanes[m]) ∧
      u.lanes[n].presence = .present 0 ∧
      u.lanes[n].changeFlag = (s.lanes[n].changeFlag || s.lanes[n].presence == .absent) ∧
      u.lanes[n].settings = s.lanes[n].pendingSettings.getD s.lanes[n].settings ∧ u.lanes[n].pendingSettings = none ∧
      u.lanes[n].excess = min (s.lanes[n].excess + (words.length - 64)) 65535 ∧
      (LaneOk s.lanes[n] →
        u.lanes[n].truncated = min (s.lanes[n].truncated + if parsed.2 then 1 else 0) 65535 ∧
        u.lanes[n].checkError =
          min (s.lanes[n].checkError + parsed.1.countP fun p => classify p == .checkError) 65535 ∧
        u.lanes[n].malformed = min (s.lanes[n].malformed + parsed.1.countP fun p => classify p == .malformed) 65535) ∧
      (∀ i : Fin 192, i.val / 16 ≠ n.val → u.monitor.sources[i] = s.monitor.sources[i]) ∧
      ∀ (j : Fin 8) (a b : Fin 192), a.val = n.val * 16 + j.val * 2 → b.val = n.val * 16 + j.val * 2 + 1 →
        u.lanes[n].inBundles[j] = (goodPackets j parsed.1).foldl (fun w p => seqCheck w p.1) s.lanes[n].inBundles[j] ∧
        u.monitor.sources[a] = arriveAll s.monitor.sources[a] ((goodPackets j parsed.1).flatMap fun p => match p.2 with
          | .samples frames => frames.map fun f => .sample f.a
          | .silent k => List.replicate k (.sample 0#24)
          | .close => [.closeMark]) ∧
        u.monitor.sources[b] = arriveAll s.monitor.sources[b] ((goodPackets j parsed.1).flatMap fun p => match p.2 with
          | .samples frames => frames.map fun f => .sample f.b
          | .silent k => List.replicate k (.sample 0#24)
          | .close => [.closeMark])) ∧
  (∀ (w : InBundle) (c : Byte), (seqCheck w c).seqRef = some c ∧ (w.seqRef = none → (seqCheck w c).gap = w.gap) ∧
    ∀ r, w.seqRef = some r →
      (seqCheck w c).gap = if c.toNat = (r.toNat + 1) % 256 then w.gap else min (w.gap + 1) 65535) ∧
  ∀ (src : Source) (e : Arrival) (es : List Arrival), arriveAll src [] = src ∧
    arriveAll src (e :: es) = arriveAll (arriveAll src [e]) es ∧
    (src.state = .idle → arriveAll src [.closeMark] = src) ∧
    (src.state = .idle → src.fifo = [] → ∀ x, arriveAll src [.sample x] = { src with state := .priming, fifo := [.sample x] }) ∧
    (src.state ≠ .idle → src.fifo.length < 16 → arriveAll src [e] = { src with fifo := src.fifo ++ [e] }) ∧
    (src.state ≠ .idle → 16 ≤ src.fifo.length → arriveAll src [e] = { src with overrun := min (src.overrun + 1) 65535 })

/-- An own packet of the arbiter, 1 to 4 frames or CLOSE, is a good own packet of its bundle to a receiver, with its sequence count and
its frames, or as many silent ones when all its samples are 0 (R119 to R121, R143, R144, R177); and the parser takes back, whole and in
order, packets that stand back to back before idle words (R122 to R124, R139). The parser word by word: an idle word is skipped; a
marker takes its length word L and L + 1 words more as one packet, or is TRUNCATED and ends the line when they are not left (R122,
R123). The classes of a complete packet: foreign by its owner code, a bad check word, a good packet by the table of kinds, MALFORMED
otherwise (R119, R120, R124). The check value: a register of 0xFFFF takes the words bit by bit, most significant first; it is shifted, and
combined with 0x1021 when its top bit differs from the bit; no final inversion (R121). -/
def Obligations.PacketsAreTakenBack : Prop :=
  (∀ (j : Fin 8) (seq : Byte) (frames : List Frame), 1 ≤ frames.length → frames.length ≤ 4 →
    classify (framePacket j seq frames) = .good j seq
      (if frames.all fun f => f.a == 0#24 && f.b == 0#24 then .silent frames.length else .samples frames) ∧
    (framePacket j seq frames).length =
      (if frames.all fun f => f.a == 0#24 && f.b == 0#24 then 4 else 4 + 3 * frames.length) ∧ WholePacket (framePacket j seq frames)) ∧
  (∀ (j : Fin 8) (seq : Byte), classify (ownPacket .close j seq 0 []) = .good j seq .close ∧
    (ownPacket .close j seq 0 []).length = 4 ∧ WholePacket (ownPacket .close j seq 0 [])) ∧
  (∀ (packets : List (List Word)) (idle : Nat), (∀ p ∈ packets, WholePacket p) →
    parseLine (packets.flatten ++ List.replicate idle 0#16) = (packets, false)) ∧
  (parseLine [] = ([], false) ∧ (∀ ws, parseLine (0#16 :: ws) = parseLine ws) ∧
    (∀ m, m ≠ 0#16 → parseLine [m] = ([], true)) ∧
    ∀ (m len : Word) (ws : List Word), m ≠ 0#16 →
      (ws.length < len.toNat + 1 → parseLine (m :: len :: ws) = ([], true)) ∧
      (len.toNat + 1 ≤ ws.length → parseLine (m :: len :: ws) =
        ((m :: len :: ws.take (len.toNat + 1)) :: (parseLine (ws.drop (len.toNat + 1))).1,
          (parseLine (ws.drop (len.toNat + 1))).2))) ∧
  (∀ words : List Word, (checkValue words).toNat = (bitsOf words).foldl checkBit 0xFFFF) ∧
  ∀ (m len check : Word) (payload : List Word),
    let p := m :: len :: (payload ++ [check])
    let good := check = checkValue (m :: len :: payload)
    (m.toNat / 256 ≠ 0xB7 → classify p = .foreign) ∧
    (m.toNat / 256 = 0xB7 → ¬ good → classify p = .checkError) ∧
    (m.toNat / 256 = 0xB7 → good →
      (payload = [] → classify p = .malformed) ∧
      ∀ (header : Word) (rest : List Word) (j : Fin 8) (seq : Byte), payload = header :: rest → j.val = m.toNat % 8 →
        seq.toNat = header.toNat / 256 →
        let kind := m.toNat / 8 % 32
        let n := header.toNat % 256
        (∀ frames : List Frame, kind = 1 → 1 ≤ n → n ≤ 4 → frames.length = n →
          rest = frames.flatMap (fun f =>
            [f.a.extractLsb' 8 16, f.a.extractLsb' 0 8 ++ f.b.extractLsb' 16 8, f.b.extractLsb' 0 16]) →
          classify p = .good j seq (.samples frames)) ∧
        (kind = 2 → 1 ≤ n → n ≤ 4 → rest = [] → classify p = .good j seq (.silent n)) ∧
        (kind = 3 → n = 0 → rest = [] → classify p = .good j seq .close) ∧
        (¬ (kind = 1 ∧ 1 ≤ n ∧ n ≤ 4 ∧ rest.length = 3 * n) → ¬ (kind = 2 ∧ 1 ≤ n ∧ n ≤ 4 ∧ rest = []) →
          ¬ (kind = 3 ∧ n = 0 ∧ rest = []) → classify p = .malformed))

/-- INPUT_LINE_EVENT at the transmit side: the output line has the line number and 64 words: the kept packets in list order, then the
granted ones, all back to back, then idle words, 0x0000; the granted ones stand in grant order from the pointer, one for a bundle at
most and no more than the budget; each is a good own packet that carries its bundle's sequence count and its oldest frames, or the CLOSE of a drained CLOSING bundle, which then is INACTIVE; each has its
words free in its turn, and no larger number of frames, up to 4, would have fitted (R143); a requesting bundle that is granted nothing
comes after every granted one, and then the budget is used up, or at or before its turn stands a requesting bundle to which nothing could
be offered (R146); a bundle that is granted nothing keeps everything; the pointer follows the mode (R134, R138 to R147). The turns the
line has left are kept for CLOSE_PACKET_GRANT (log 16). -/
def Obligations.OutputLineObeysItsBounds : Prop :=
  ∀ (n : Fin 8) (line : Nat) (words : List Word) (s : State), line ≤ 2047 → s.rstLow = false →
    let st := s.lanes[n].pendingSettings.getD s.lanes[n].settings
    let old := s.lanes[n].outBundles
    let kept := (parseLine (words.take 64)).1.filter fun p => match classify p with
      | .foreign => true
      | .good j _ _ => st.keepMask.getLsbD j.val && old[j].activity == .inactive
      | .checkError | .malformed => false
    let pointer := if st.mode = s.lanes[n].settings.mode ∧ st.lowest = s.lanes[n].settings.lowest then s.lanes[n].pointer
      else st.lowest
    ∃ (u : State) (l : OutLine) (own : List (List Word)) (js : List (Fin 8)),
      DoneWith (.inputLineEvent n line words) s u ∧ u.lanes[n].outLine = some l ∧ l.number = line ∧ l.packets = kept ++ own ∧
      (lineWords l).length = 64 ∧
      lineWords l = (kept ++ own).flatten ++ List.replicate (64 - (kept ++ own).flatten.length) 0#16 ∧
      own.length = js.length ∧ js.length ≤ st.budget ∧ l.granted = js.length ∧
      js.Pairwise (fun i j => grantPlace pointer i < grantPlace pointer j) ∧
      (∀ (k : Nat) (j : Fin 8) (p : List Word), js[k]? = some j → own[k]? = some p →
        (old[j].activity = .closing ∧ old[j].fifo = [] ∧ classify p = .good j old[j].seq .close ∧
          u.lanes[n].outBundles[j] = { old[j] with activity := .inactive, seq := old[j].seq + 1#8 }) ∨
        ∃ c, 1 ≤ c ∧ c ≤ 4 ∧ c ≤ old[j].fifo.length ∧
          (∀ c', c < c' → c' ≤ 4 → c' ≤ old[j].fifo.length →
            FramesTooLong (old[j].fifo.take c') (64 - (kept ++ own.take k).flatten.length)) ∧
          classify p = .good j old[j].seq
            (if (old[j].fifo.take c).all fun f => f.a == 0#24 && f.b == 0#24 then .silent c
            else .samples (old[j].fifo.take c)) ∧
          u.lanes[n].outBundles[j] = { old[j] with fifo := old[j].fifo.drop c, seq := old[j].seq + 1#8 }) ∧
      (∀ (k : Nat) (p : List Word), own[k]? = some p → WholePacket p ∧ (kept ++ own.take k).flatten.length + p.length ≤ 64) ∧
      (∀ j : Fin 8, j ∉ js → Requests old[j] → (∀ g ∈ js, grantPlace pointer g < grantPlace pointer j) ∧
        (st.budget ≤ js.length ∨ ∃ j0 : Fin 8, j0 ∉ js ∧ Requests old[j0] ∧ grantPlace pointer j0 ≤ grantPlace pointer j ∧
          (∀ g ∈ js, grantPlace pointer g < grantPlace pointer j0) ∧
          NothingFits old[j0] (64 - (kept ++ own).flatten.length))) ∧
      (∀ j : Fin 8, j ∉ js → u.lanes[n].outBundles[j] = old[j]) ∧
      (∀ j : Fin 8, j ∈ l.turns ↔ js.length < st.budget ∧ (∀ i : Fin 8, i ∉ js → ¬ Requests old[i]) ∧
        ∀ g ∈ js, grantPlace pointer g < grantPlace pointer j) ∧
      u.lanes[n].pointer = match st.mode with
        | .fixed => st.lowest
        | .rotate => js.getLast?.getD pointer

/-- SET_LANE makes its five values pending, or is refused with RANGE. SET_LANE_IN_FORCE brings the pending settings into force, the
pointer set to the lowest bundle when the mode or that setting changes; with none pending it does nothing, the model's choice for the row
commanded alone (log 3) (R131, R148). -/
def Obligations.LaneSettingsArePendingThenInForce : Prop :=
  (∀ (n : Byte) (line : Word) (keep budget mode lowest : Byte) (s : State),
    HandedOver (.setLane n line keep budget mode lowest) s →
    (8 ≤ n.toNat ∨ line.toNat = 0 ∨ 2047 < line.toNat ∨ budget.toNat = 0 ∨ 8 < budget.toNat ∨ 1 < mode.toNat ∨ 7 < lowest.toNat →
      AnsweredWith (.setLane n line keep budget mode lowest) s ⟨.range, []⟩) ∧
    ∀ (k lo : Fin 8) (md : PriorityMode), n.toNat = k.val → lowest.toNat = lo.val →
      (mode.toNat = 0 ∧ md = .fixed ∨ mode.toNat = 1 ∧ md = .rotate) → 1 ≤ line.toNat → line.toNat ≤ 2047 →
      1 ≤ budget.toNat → budget.toNat ≤ 8 → ∃ lanes : Vector Lane 8,
        TakenWith (.setLane n line keep budget mode lowest) s { s with lanes := lanes }
          ⟨.ok, numberCoded line.toNat ++ [keep, budget, mode, lowest]⟩ ∧
        lanes[k] = { s.lanes[k] with pendingSettings := some ⟨line.toNat, keep, budget.toNat, md, lo⟩ } ∧
        ∀ m : Fin 8, m ≠ k → lanes[m] = s.lanes[m]) ∧
  ∀ (n : Fin 8) (s : State), s.rstLow = false →
    (s.lanes[n].pendingSettings = none → exec (.setLaneInForce n) s = .next s) ∧
    ∀ st, s.lanes[n].pendingSettings = some st → ∃ lanes : Vector Lane 8,
      DoneWith (.setLaneInForce n) s { s with lanes := lanes } ∧ (∀ m : Fin 8, m ≠ n → lanes[m] = s.lanes[m]) ∧
      lanes[n] = { s.lanes[n] with
        settings := st, pendingSettings := none
        pointer := if st.mode = s.lanes[n].settings.mode ∧ st.lowest = s.lanes[n].settings.lowest then s.lanes[n].pointer
          else st.lowest }

/-- RESTART_LANE: counters and references of the receive side to their reset values, the lane's 16 sources IDLE with their FIFOs
flushed, the output bundles empty and judged anew, the pointer at the lowest bundle; presence, change flag and settings stay
(R106, R127, R132, R149). -/
def Obligations.RestartLaneRestartsBothSides : Prop :=
  ∀ (n : Byte) (s : State), HandedOver (.restartLane n) s →
    (8 ≤ n.toNat → AnsweredWith (.restartLane n) s ⟨.range, []⟩) ∧
    ∀ k : Fin 8, n.toNat = k.val → ∃ (lanes : Vector Lane 8) (m : SourceMonitor),
      TakenWith (.restartLane n) s { s with lanes := lanes, monitor := m } ⟨.ok, []⟩ ∧ m.settings = s.monitor.settings ∧
      (∀ i : Fin 192, m.sources[i] =
        if i.val / 16 = k.val then
          { s.monitor.sources[i] with state := .idle, fifo := [], timer := none, quiet := false, quietCount := 0 }
        else s.monitor.sources[i]) ∧
      (∀ a : Fin 8, a ≠ k → lanes[a] = s.lanes[a]) ∧
      lanes[k] = { s.lanes[k] with
        excess := 0, truncated := 0, checkError := 0, malformed := 0, pointer := s.lanes[k].settings.lowest
        inBundles := lanes[k].inBundles, outBundles := lanes[k].outBundles } ∧
      ∀ (j : Fin 8) (a b : Fin 192), a.val = k.val * 16 + j.val * 2 → b.val = k.val * 16 + j.val * 2 + 1 →
        lanes[k].inBundles[j] = ⟨none, 0⟩ ∧
        lanes[k].outBundles[j] =
          ⟨if s.route.destMap[a] = none ∧ s.route.destMap[b] = none then .inactive else .active, [], 0#8, 0⟩

/-- PRESENCE_TIMEOUT: the 240th tick makes a PRESENT lane ABSENT and sets its change flag (R117, R118); before it the row does nothing
(log 3). CLOSE_PACKET_GRANT: a drained CLOSING bundle whose turn in the lane's output line has not passed, with words and budget left in
it, sends its CLOSE there and becomes INACTIVE; its turn and those before it have passed then, and in ROTATE mode the pointer moves to it
(R138, R142, R144 to R147); the line is the one last handed out, and the budget and the mode are those now in force: the model's choices
(log 16). -/
def Obligations.LaneEndsAndCloses : Prop :=
  (∀ (n : Fin 8) (s : State), s.rstLow = false →
    (∀ c, s.lanes[n].presence = .present c → 239 ≤ c → ∃ lanes : Vector Lane 8,
      DoneWith (.presenceTimeout n) s { s with lanes := lanes } ∧
      lanes[n] = { s.lanes[n] with presence := .absent, changeFlag := true } ∧ ∀ m : Fin 8, m ≠ n → lanes[m] = s.lanes[m]) ∧
    ((s.lanes[n].presence = .absent ∨ ∃ c, s.lanes[n].presence = .present c ∧ c < 239) →
      exec (.presenceTimeout n) s = .next s)) ∧
  ∀ (n j : Fin 8) (l : OutLine) (s : State), s.rstLow = false → s.lanes[n].outLine = some l →
    let ready : Prop := s.lanes[n].outBundles[j].activity = .closing ∧ s.lanes[n].outBundles[j].fifo = [] ∧ j ∈ l.turns ∧
      l.packets.flatten.length ≤ 60 ∧ l.granted < s.lanes[n].settings.budget
    (¬ ready → exec (.closePacketGrant n j) s = .next s) ∧
    (ready → ∃ (lanes : Vector Lane 8) (p : List Word) (turns : List (Fin 8)), exec (.closePacketGrant n j) s = .next { s with lanes := lanes } ∧
      classify p = .good j s.lanes[n].outBundles[j].seq .close ∧ p.length = 4 ∧
      (∀ m : Fin 8, m ≠ n → lanes[m] = s.lanes[m]) ∧
      lanes[n] = { s.lanes[n] with
        outLine := some ⟨l.number, l.packets ++ [p], l.granted + 1, turns⟩, outBundles := lanes[n].outBundles
        pointer := match s.lanes[n].settings.mode with
          | .fixed => s.lanes[n].settings.lowest
          | .rotate => j } ∧
      (∃ before, l.turns = before ++ j :: turns ∧ j ∉ before) ∧
      lanes[n].outBundles[j] = { s.lanes[n].outBundles[j] with
        activity := .inactive, seq := s.lanes[n].outBundles[j].seq + 1#8 } ∧
      ∀ k : Fin 8, k ≠ j → lanes[n].outBundles[k] = s.lanes[n].outBundles[k])

/-! ## The Alert Controller -/

/-- POLL_ALERT marks the highest eligible class in service and answers it with the state after the poll; with none eligible it answers
NONE, the class byte 255, and changes nothing but the link (R157, R160, R179, R183). ACK_ALERT ends the service of a class and, in ROTATE
mode, makes it the lowest; a value that names no class is RANGE, a class not in service BAD_STATE (R156, R161). The six bytes of the alert
state, and the codes of its classes (R180, R183). -/
def Obligations.PollAndAckAlertServeAClass : Prop :=
  (∀ s : State, HandedOver .pollAlert s →
    ((∀ c, eligible (requests s) s.alert c = false) → AnsweredWith .pollAlert s ⟨.none, 255#8 :: alertStateImage s⟩) ∧
    ∀ c : AlertClass, eligible (requests s) s.alert c = true →
      (∀ k, eligible (requests s) s.alert k = true → priorityPlace s.alert.pointer c ≤ priorityPlace s.alert.pointer k) →
      ∃ f : ClassFlags, (∀ k, classFlag f k = (classFlag s.alert.inService k || k == c)) ∧
        let t : State := { s with alert := { s.alert with inService := f } }
        TakenWith .pollAlert s t ⟨.ok, alertClassCode c :: alertStateImage t⟩ ∧
        ∀ k, priorityPlace s.alert.pointer c ≤ priorityPlace s.alert.pointer k →
          eligible (requests t) t.alert k = false) ∧
  (∀ (b : Byte) (s : State), HandedOver (.ackAlert b) s →
    (4 ≤ b.toNat → AnsweredWith (.ackAlert b) s ⟨.range, []⟩) ∧
    ∀ c : AlertClass, b.toNat = classPlace c →
      (classFlag s.alert.inService c = false → AnsweredWith (.ackAlert b) s ⟨.badState, []⟩) ∧
      (classFlag s.alert.inService c = true → ∃ f : ClassFlags,
        (∀ k, classFlag f k = (classFlag s.alert.inService k && k != c)) ∧
        let t : State := { s with
          alert := { s.alert with inService := f, pointer := if s.alert.mode = .rotate then c else s.alert.pointer } }
        TakenWith (.ackAlert b) s t ⟨.ok, alertStateImage t⟩)) ∧
  (∀ c : AlertClass, alertClassCode c = BitVec.ofNat 8 (classPlace c)) ∧
  ∀ s : State, ∃ requesting masked serving eligibles : Byte,
    alertStateImage s = [requesting, masked, serving, if s.alert.mode = .fixed then 0#8 else 1#8,
      BitVec.ofNat 8 (classPlace s.alert.pointer), eligibles] ∧
    requesting.toNat < 16 ∧ masked.toNat < 16 ∧ serving.toNat < 16 ∧ eligibles.toNat < 16 ∧
    ∀ c : AlertClass, requesting.getLsbD (classPlace c) = classFlag (requests s) c ∧
      masked.getLsbD (classPlace c) = classFlag s.alert.masked c ∧
      serving.getLsbD (classPlace c) = classFlag s.alert.inService c ∧
      eligibles.getLsbD (classPlace c) = eligible (requests s) s.alert c

/-- SET_ALERT replaces masks, mode, style and width together and sets the pointer, in either mode; the in-service flags stay; a change of
style leaves no pulse running; a value out of range refuses it whole (R155, R156, R162, R183). -/
def Obligations.SetAlertReplacesTheSettings : Prop :=
  ∀ (masks mode lowest style width : Byte) (s : State), HandedOver (.setAlert masks mode lowest style width) s →
    (16 ≤ masks.toNat ∨ 2 ≤ mode.toNat ∨ 4 ≤ lowest.toNat ∨ 2 ≤ style.toNat ∨
        (width.toNat ≠ 1 ∧ width.toNat ≠ 4 ∧ width.toNat ≠ 16) →
      AnsweredWith (.setAlert masks mode lowest style width) s ⟨.range, []⟩) ∧
    ∀ (md : PriorityMode) (lo : AlertClass) (st : PinStyle), masks.toNat < 16 →
      (mode.toNat = 0 ∧ md = .fixed ∨ mode.toNat = 1 ∧ md = .rotate) → lowest.toNat = classPlace lo →
      (style.toNat = 0 ∧ st = .level ∨ style.toNat = 1 ∧ st = .pulse) →
      (width.toNat = 1 ∨ width.toNat = 4 ∨ width.toNat = 16) →
      ∃ (mk : ClassFlags) (e : Byte), (∀ k, classFlag mk k = masks.getLsbD (classPlace k)) ∧
        let t : State := { s with
          alert := ⟨mk, s.alert.inService, md, lo, st, width.toNat,
            if st = .pulse ∧ s.alert.style = .pulse then s.alert.pulse else none⟩ }
        (∀ k, e.getLsbD (classPlace k) = eligible (requests t) t.alert k) ∧ e.toNat < 16 ∧
        TakenWith (.setAlert masks mode lowest style width) s t ⟨.ok, [masks, mode, lowest, style, width, e]⟩

/-- A class is eligible when its request is present, it is not masked, and no class of equal or higher priority is in service, by the
order that runs from the class after the pointer; ALERT_N in LEVEL style is asserted exactly while a class is eligible (R154, R156 to
R158), and so the indication the link reports (R163). -/
def Obligations.LevelPinFollowsTheEligibleSet : Prop :=
  (∀ (req : ClassFlags) (a : AlertController) (c : AlertClass), eligible req a c = true ↔
    classFlag req c = true ∧ classFlag a.masked c = false ∧
      ∀ k, priorityPlace a.pointer k ≤ priorityPlace a.pointer c → classFlag a.inService k = false) ∧
  (∀ s : State, ((requests s).source = true ↔ ∃ n : Fin 192, s.monitor.sources[n].changeFlag = true) ∧
    ((requests s).route = true ↔ ∃ (i : Fin 160) (r : Record), s.route.slots[i].record = some r ∧
      r.notices ≠ ⟨false, false, false⟩) ∧
    ((requests s).lane = true ↔ ∃ n : Fin 8, s.lanes[n].changeFlag = true) ∧
    ((requests s).batch = true ↔ ∃ (i : Fin 4) (r : BatchResult), s.edit.slots[i] = .done r)) ∧
  ∀ s : State, (alertWaiting s = true ↔ ∃ c, eligible (requests s) s.alert c = true) ∧
    (s.rstLow = false → s.alert.style = .level → alertAsserted s = alertWaiting s) ∧
    (flagsByte s).getLsbD 4 = alertWaiting s

/-- In PULSE style, over every command: the event that makes the eligible set non-empty loads the pulse count with the width, and no other
event but a tick changes a running count; a change of style leaves none running. PULSE_END is the tick that ends a pulse for the
count alone, and does nothing before it (log 3) (R159, R162, R175). That the set is judged once an event, and that the tick that starts a
pulse loads the whole width, is the model's reading (log 9). -/
def Obligations.PulseFollowsTheEligibleSet : Prop :=
  (∀ (i : Instr) (s t : State), Inv s → s.rstLow = false → exec i s = .next t → (∀ b, i ≠ .deviceReset b) →
    (s.alert.style = .pulse → t.alert.style = .pulse → alertWaiting s = false → alertWaiting t = true →
      t.alert.pulse = some t.alert.width ∧ alertAsserted t = true) ∧
    (s.alert.style = .pulse → t.alert.style = .pulse → (alertWaiting s = true ∨ alertWaiting t = false) →
      (∀ desk, i ≠ .sampleTick desk) → i ≠ .pulseEnd → t.alert.pulse = s.alert.pulse) ∧
    (t.alert.style ≠ s.alert.style → t.alert.pulse = none)) ∧
  ∀ s : State, s.rstLow = false →
    (s.alert.pulse = some 1 → exec .pulseEnd s = .next { s with alert := { s.alert with pulse := none } }) ∧
    ((s.alert.pulse = none ∨ ∃ c, s.alert.pulse = some c ∧ 2 ≤ c) → exec .pulseEnd s = .next s)

/-! ## Invariants -/

/-- The state the model starts from is sound and holds every reset value of the spec (log 1 says where in the reset it stands). -/
def Obligations.ResetIsSound : Prop := Inv State.reset ∧ AtReset State.reset ∧ State.reset.rstLow = false ∧ State.reset.pending = []

/-- Every step keeps the Route Table sound: generations from 1 to 255, legs that follow their record's state with 0 ≤ k < R, on-backup
only with a backup part, and a destination map that names exactly the records that are not FREE (R16 to R18, R29, R64). -/
def Obligations.EveryStepKeepsTheRouteTableSound : Prop :=
  ∀ s t : State, Inv s → step s = .next t → RouteOk t.route

/-- Every step keeps every block sound: besides the Route Table, edit lists without two edits of a destination, the arming queue exactly
the ARMED slots, at most one OPEN slot; FIFOs, rings, timers, counters and settings in their ranges; CLOSING and INACTIVE bundles; output
lines of at most 64 words; pulses in PULSE style only; responses of at most 250 bytes; reset state while RESET_N is low (R29, R41 to R44,
R95 to R98, R102, R104, R117, R129, R134, R139, R159, R166, R175). -/
def Obligations.EveryStepKeepsThePartSound : Prop :=
  ∀ s t : State, Inv s → step s = .next t → Inv t
end

