-- ==== Sys2Proof/Laws/Banks.lean ====
section
/-!
SUPPORT. Reading a bank after its pointwise operations, and indices. The lemmas stand on natural-number indices, the form in which
`simp` writes `v[i]`.
-/
namespace Sys2Proof

variable {α β : Type} {n : Nat}

@[simp] theorem bankMap_get (f : α → β) (v : Vector α n) (k : Nat) (h : k < n) : (bankMap f v)[k] = f v[k] := by
  simp [bankMap]

@[simp] theorem bankMapIdx_get (f : Fin n → α → β) (v : Vector α n) (k : Nat) (h : k < n) :
    (bankMapIdx f v)[k] = f ⟨k, h⟩ v[k] := by
  simp [bankMapIdx]

/-- A bank with one entry replaced, read anywhere. -/
theorem bankSet_get (v : Vector α n) (i : Fin n) (x : α) (k : Nat) (h : k < n) :
    (bankSet v i x)[k] = if i.val = k then x else v[k] := by
  simp [bankSet, Vector.getElem_set]

@[simp] theorem bankSet_get_self (v : Vector α n) (i : Fin n) (x : α) : (bankSet v i x)[i.val] = x := by
  simp [bankSet_get]

/-- A bank with one entry replaced is as before at every other index. -/
theorem bankSet_get_ne (v : Vector α n) (i : Fin n) (x : α) (k : Nat) (h : k < n) (hk : i.val ≠ k) :
    (bankSet v i x)[k] = v[k] := by
  simp [bankSet_get, hk]

/-- A bank with one entry changed, read anywhere. -/
theorem bankModify_get (v : Vector α n) (i : Fin n) (f : α → α) (k : Nat) (h : k < n) :
    (bankModify v i f)[k] = if i.val = k then f v[k] else v[k] := by
  unfold bankModify
  rw [bankSet_get]
  split
  · next hk => subst hk; rfl
  · rfl

@[simp] theorem bankModify_get_self (v : Vector α n) (i : Fin n) (f : α → α) :
    (bankModify v i f)[i.val] = f v[i.val] := by
  simp [bankModify_get]

/-- A bank with one entry changed is as before at every other index. -/
theorem bankModify_get_ne (v : Vector α n) (i : Fin n) (f : α → α) (k : Nat) (h : k < n) (hk : i.val ≠ k) :
    (bankModify v i f)[k] = v[k] := by
  simp [bankModify_get, hk]

/-- Two banks with the same entries are the same. -/
theorem bank_ext {v w : Vector α n} (h : ∀ i : Fin n, v[i] = w[i]) : v = w := by
  ext k hk
  exact h ⟨k, hk⟩

theorem bankMap_id_of {v : Vector α n} {f : α → α} (h : ∀ i : Fin n, f v[i] = v[i]) : bankMap f v = v :=
  bank_ext fun i => by simpa using h i

theorem bankMapIdx_id_of {v : Vector α n} {f : Fin n → α → α} (h : ∀ i : Fin n, f i v[i] = v[i]) :
    bankMapIdx f v = v :=
  bank_ext fun i => by simpa using h i

theorem bankModify_id_of {v : Vector α n} {i : Fin n} {f : α → α} (h : f v[i] = v[i]) : bankModify v i f = v :=
  bank_ext fun j => by
    simp only [Fin.getElem_fin, bankModify_get]
    split
    · next hk => simpa [← hk] using h
    · rfl

/-- The test of a bank is met at some index. -/
theorem bankAny_iff (p : α → Bool) (v : Vector α n) : bankAny p v = true ↔ ∃ i : Fin n, p v[i] = true := by
  unfold bankAny
  rw [List.any_eq_true]
  constructor
  · rintro ⟨x, hx, hp⟩
    obtain ⟨k, hk, rfl⟩ := List.getElem_of_mem hx
    exact ⟨⟨k, by simpa using hk⟩, by simpa using hp⟩
  · rintro ⟨i, hp⟩
    exact ⟨v[i], by simp [Vector.mem_toList_iff], hp⟩

/-- The test of a bank is met nowhere. -/
theorem bankAny_false_iff (p : α → Bool) (v : Vector α n) : bankAny p v = false ↔ ∀ i : Fin n, p v[i] = false := by
  rw [← Bool.not_eq_true, bankAny_iff]
  simp

/-- Banks whose entries agree under the test agree under `bankAny`. -/
theorem bankAny_congr {p : α → Bool} {v w : Vector α n} (h : ∀ i : Fin n, p v[i] = p w[i]) :
    bankAny p v = bankAny p w := by
  rw [Bool.eq_iff_iff, bankAny_iff, bankAny_iff]
  simp only [h]

@[simp] theorem mem_bankIndices (i : Fin n) : i ∈ bankIndices n := by simp [bankIndices]

@[simp] theorem toIndex_val (i : Fin n) : toIndex n i.val = some i := by simp [toIndex]

theorem toIndex_lt {k : Nat} (h : k < n) : toIndex n k = some ⟨k, h⟩ := by simp [toIndex, h]

@[simp] theorem toIndex_eq_none {k : Nat} : toIndex n k = none ↔ n ≤ k := by simp [toIndex]

theorem toIndex_eq_some {k : Nat} {i : Fin n} : toIndex n k = some i ↔ i.val = k := by
  unfold toIndex
  split
  · simp [Fin.ext_iff, eq_comm]
  · next h => simp; omega

end Sys2Proof
end

