-- ==== Sys2Proof/Laws/State.lean ====
section
/-!
SUPPORT. The small lemmas of the state updates: one a field and update, true by definition, so that no later proof unfolds an update.
-/
namespace Sys2Proof.Machine

/-! ### respond -/

@[simp] theorem respond_rstLow (t : State) (r : Response) : (respond t r).rstLow = t.rstLow := by simp only [respond]
@[simp] theorem respond_route (t : State) (r : Response) : (respond t r).route = t.route := by simp only [respond]
@[simp] theorem respond_edit (t : State) (r : Response) : (respond t r).edit = t.edit := by simp only [respond]
@[simp] theorem respond_monitor (t : State) (r : Response) : (respond t r).monitor = t.monitor := by simp only [respond]
@[simp] theorem respond_windowTicked (t : State) (r : Response) : (respond t r).windowTicked = t.windowTicked := by simp only [respond]
@[simp] theorem respond_lanes (t : State) (r : Response) : (respond t r).lanes = t.lanes := by simp only [respond]
@[simp] theorem respond_desk (t : State) (r : Response) : (respond t r).desk = t.desk := by simp only [respond]
@[simp] theorem respond_alert (t : State) (r : Response) : (respond t r).alert = t.alert := by simp only [respond]
@[simp] theorem respond_freeCount (t : State) (r : Response) : (respond t r).freeCount = t.freeCount := by simp only [respond]
@[simp] theorem respond_pending (t : State) (r : Response) : (respond t r).pending = t.pending := by simp only [respond]

@[simp] theorem respond_link_state (t : State) (r : Response) : (respond t r).link.state = .ready r := by simp only [respond]
@[simp] theorem respond_link_slot (t : State) (r : Response) : (respond t r).link.slot = t.link.slot := by simp only [respond]
@[simp] theorem respond_link_fresh (t : State) (r : Response) : (respond t r).link.fresh = t.link.fresh := by simp only [respond]
@[simp] theorem respond_link_overrun (t : State) (r : Response) : (respond t r).link.overrun = t.link.overrun := by simp only [respond]
@[simp] theorem respond_link_short (t : State) (r : Response) : (respond t r).link.short = t.link.short := by simp only [respond]
@[simp] theorem respond_link_csHeld (t : State) (r : Response) : (respond t r).link.csHeld = t.link.csHeld := by simp only [respond]
@[simp] theorem respond_link_miso (t : State) (r : Response) : (respond t r).link.miso = t.link.miso := by simp only [respond]

/-! ### untakenTransaction -/

@[simp] theorem untakenTransaction_rstLow (n : Nat) (s : State) : (untakenTransaction n s).rstLow = s.rstLow := by simp only [untakenTransaction]
@[simp] theorem untakenTransaction_route (n : Nat) (s : State) : (untakenTransaction n s).route = s.route := by simp only [untakenTransaction]
@[simp] theorem untakenTransaction_edit (n : Nat) (s : State) : (untakenTransaction n s).edit = s.edit := by simp only [untakenTransaction]
@[simp] theorem untakenTransaction_monitor (n : Nat) (s : State) : (untakenTransaction n s).monitor = s.monitor := by simp only [untakenTransaction]
@[simp] theorem untakenTransaction_windowTicked (n : Nat) (s : State) : (untakenTransaction n s).windowTicked = s.windowTicked := by simp only [untakenTransaction]
@[simp] theorem untakenTransaction_lanes (n : Nat) (s : State) : (untakenTransaction n s).lanes = s.lanes := by simp only [untakenTransaction]
@[simp] theorem untakenTransaction_desk (n : Nat) (s : State) : (untakenTransaction n s).desk = s.desk := by simp only [untakenTransaction]
@[simp] theorem untakenTransaction_alert (n : Nat) (s : State) : (untakenTransaction n s).alert = s.alert := by simp only [untakenTransaction]
@[simp] theorem untakenTransaction_freeCount (n : Nat) (s : State) :
    (untakenTransaction n s).freeCount = s.freeCount + 1 := by simp only [untakenTransaction]
@[simp] theorem untakenTransaction_pending (n : Nat) (s : State) : (untakenTransaction n s).pending = s.pending := by simp only [untakenTransaction]

@[simp] theorem untakenTransaction_link_state (n : Nat) (s : State) : (untakenTransaction n s).link.state = s.link.state := by simp only [untakenTransaction]
@[simp] theorem untakenTransaction_link_slot (n : Nat) (s : State) : (untakenTransaction n s).link.slot = s.link.slot := by simp only [untakenTransaction]
@[simp] theorem untakenTransaction_link_fresh (n : Nat) (s : State) : (untakenTransaction n s).link.fresh = s.link.fresh := by simp only [untakenTransaction]
@[simp] theorem untakenTransaction_link_overrun (n : Nat) (s : State) : (untakenTransaction n s).link.overrun = s.link.overrun := by simp only [untakenTransaction]
@[simp] theorem untakenTransaction_link_short (n : Nat) (s : State) : (untakenTransaction n s).link.short = s.link.short := by simp only [untakenTransaction]
@[simp] theorem untakenTransaction_link_csHeld (n : Nat) (s : State) : (untakenTransaction n s).link.csHeld = false := by simp only [untakenTransaction]
@[simp] theorem untakenTransaction_link_miso (n : Nat) (s : State) : (untakenTransaction n s).link.miso = (List.range n).map (Config.untakenMiso s.freeCount) := by simp only [untakenTransaction]

/-! ### resetState -/

@[simp] theorem resetState_rstLow (s : State) :
    (resetState s).rstLow = true := by simp only [resetState, State.reset]
@[simp] theorem resetState_route (s : State) :
    (resetState s).route = resetRoute := by simp only [resetState, State.reset]
@[simp] theorem resetState_edit (s : State) :
    (resetState s).edit = resetEdit := by simp only [resetState, State.reset]
@[simp] theorem resetState_monitor (s : State) :
    (resetState s).monitor = ⟨Vector.replicate 192 resetSource, resetSettings⟩ := by simp only [resetState, State.reset]
@[simp] theorem resetState_windowTicked (s : State) :
    (resetState s).windowTicked = false := by simp only [resetState, State.reset]
@[simp] theorem resetState_lanes (s : State) :
    (resetState s).lanes = Vector.replicate 8 resetLane := by simp only [resetState, State.reset]
@[simp] theorem resetState_desk (s : State) :
    (resetState s).desk = resetDesk := by simp only [resetState, State.reset]
@[simp] theorem resetState_alert (s : State) :
    (resetState s).alert = resetAlert := by simp only [resetState, State.reset]
@[simp] theorem resetState_link (s : State) :
    (resetState s).link = resetLink := by simp only [resetState, State.reset]
@[simp] theorem resetState_freeCount (s : State) : (resetState s).freeCount = s.freeCount := by simp only [resetState, State.reset]
@[simp] theorem resetState_pending (s : State) : (resetState s).pending = s.pending := by simp only [resetState, State.reset]

/-! ### releaseReset -/

@[simp] theorem releaseReset_rstLow (c : Bool) (s : State) :
    (releaseReset c s).rstLow = false := by simp only [releaseReset]
@[simp] theorem releaseReset_route (c : Bool) (s : State) : (releaseReset c s).route = s.route := by simp only [releaseReset]
@[simp] theorem releaseReset_edit (c : Bool) (s : State) : (releaseReset c s).edit = s.edit := by simp only [releaseReset]
@[simp] theorem releaseReset_monitor (c : Bool) (s : State) : (releaseReset c s).monitor = s.monitor := by simp only [releaseReset]
@[simp] theorem releaseReset_windowTicked (c : Bool) (s : State) :
    (releaseReset c s).windowTicked = false := by simp only [releaseReset]
@[simp] theorem releaseReset_lanes (c : Bool) (s : State) : (releaseReset c s).lanes = s.lanes := by simp only [releaseReset]
@[simp] theorem releaseReset_desk (c : Bool) (s : State) : (releaseReset c s).desk = s.desk := by simp only [releaseReset]
@[simp] theorem releaseReset_alert (c : Bool) (s : State) : (releaseReset c s).alert = s.alert := by simp only [releaseReset]
@[simp] theorem releaseReset_freeCount (c : Bool) (s : State) : (releaseReset c s).freeCount = s.freeCount := by simp only [releaseReset]
@[simp] theorem releaseReset_pending (c : Bool) (s : State) : (releaseReset c s).pending = s.pending := by simp only [releaseReset]

@[simp] theorem releaseReset_link_state (c : Bool) (s : State) : (releaseReset c s).link.state = s.link.state := by simp only [releaseReset]
@[simp] theorem releaseReset_link_slot (c : Bool) (s : State) : (releaseReset c s).link.slot = s.link.slot := by simp only [releaseReset]
@[simp] theorem releaseReset_link_fresh (c : Bool) (s : State) : (releaseReset c s).link.fresh = s.link.fresh := by simp only [releaseReset]
@[simp] theorem releaseReset_link_overrun (c : Bool) (s : State) : (releaseReset c s).link.overrun = s.link.overrun := by simp only [releaseReset]
@[simp] theorem releaseReset_link_short (c : Bool) (s : State) : (releaseReset c s).link.short = s.link.short := by simp only [releaseReset]
@[simp] theorem releaseReset_link_csHeld (c : Bool) (s : State) : (releaseReset c s).link.csHeld = c := by simp only [releaseReset]
@[simp] theorem releaseReset_link_miso (c : Bool) (s : State) : (releaseReset c s).link.miso = s.link.miso := by simp only [releaseReset]

/-! ### tick -/

@[simp] theorem tick_rstLow (d : List DeskArrival) (s : State) : (tick d s).rstLow = s.rstLow := by simp only [tick]
@[simp] theorem tick_route (d : List DeskArrival) (s : State) :
    (tick d s).route = addTriggers (routeTick s.monitor.sources s.route s.edit).1 (fun n => (worksAtTick d s)[n].enteredLost) (fun _ => false) := by simp only [tick]
@[simp] theorem tick_edit (d : List DeskArrival) (s : State) :
    (tick d s).edit = (routeTick s.monitor.sources s.route s.edit).2 := by simp only [tick]
@[simp] theorem tick_monitor (d : List DeskArrival) (s : State) :
    (tick d s).monitor = { s.monitor with sources := pushDesk s.desk d false (bankMap (·.source) (worksAtTick d s)) } := by simp only [tick]
@[simp] theorem tick_windowTicked (d : List DeskArrival) (s : State) :
    (tick d s).windowTicked = true := by simp only [tick]
@[simp] theorem tick_lanes (d : List DeskArrival) (s : State) :
    (tick d s).lanes = bankMapIdx (fun n l => resetReferences (worksAtTick d s) n (laneTick s.route n l)) s.lanes := by simp only [tick]
@[simp] theorem tick_desk (d : List DeskArrival) (s : State) :
    (tick d s).desk = deskTick s.route.destSamples s.desk := by simp only [tick]
@[simp] theorem tick_alert (d : List DeskArrival) (s : State) :
    (tick d s).alert = pulseTick s.alert := by simp only [tick]
@[simp] theorem tick_link (d : List DeskArrival) (s : State) : (tick d s).link = s.link := by simp only [tick]
@[simp] theorem tick_freeCount (d : List DeskArrival) (s : State) : (tick d s).freeCount = s.freeCount := by simp only [tick]
@[simp] theorem tick_pending (d : List DeskArrival) (s : State) : (tick d s).pending = s.pending := by simp only [tick]

/-! ### lineEvent -/

@[simp] theorem lineEvent_rstLow (n : Fin 8) (k : Nat) (ws : List Word) (s : State) : (lineEvent n k ws s).rstLow = s.rstLow := by simp only [lineEvent]
@[simp] theorem lineEvent_route (n : Fin 8) (k : Nat) (ws : List Word) (s : State) : (lineEvent n k ws s).route = s.route := by simp only [lineEvent]
@[simp] theorem lineEvent_edit (n : Fin 8) (k : Nat) (ws : List Word) (s : State) :
    (lineEvent n k ws s).edit = lineSwitchPoint n k (laneAtLine s.lanes[n]) s.edit := by simp only [lineEvent]
@[simp] theorem lineEvent_monitor (n : Fin 8) (k : Nat) (ws : List Word) (s : State) :
    (lineEvent n k ws s).monitor = { s.monitor with sources := (receiveLine n (laneAtLine s.lanes[n]) s.monitor.sources ws).sources } := by simp only [lineEvent]
@[simp] theorem lineEvent_windowTicked (n : Fin 8) (k : Nat) (ws : List Word) (s : State) : (lineEvent n k ws s).windowTicked = s.windowTicked := by simp only [lineEvent]
@[simp] theorem lineEvent_lanes (n : Fin 8) (k : Nat) (ws : List Word) (s : State) :
    (lineEvent n k ws s).lanes = bankSet s.lanes n (transmitLine (receiveLine n (laneAtLine s.lanes[n]) s.monitor.sources ws).lane k
      (receiveLine n (laneAtLine s.lanes[n]) s.monitor.sources ws).list) := by simp only [lineEvent]
@[simp] theorem lineEvent_desk (n : Fin 8) (k : Nat) (ws : List Word) (s : State) : (lineEvent n k ws s).desk = s.desk := by simp only [lineEvent]
@[simp] theorem lineEvent_alert (n : Fin 8) (k : Nat) (ws : List Word) (s : State) : (lineEvent n k ws s).alert = s.alert := by simp only [lineEvent]
@[simp] theorem lineEvent_link (n : Fin 8) (k : Nat) (ws : List Word) (s : State) : (lineEvent n k ws s).link = s.link := by simp only [lineEvent]
@[simp] theorem lineEvent_freeCount (n : Fin 8) (k : Nat) (ws : List Word) (s : State) : (lineEvent n k ws s).freeCount = s.freeCount := by simp only [lineEvent]
@[simp] theorem lineEvent_pending (n : Fin 8) (k : Nat) (ws : List Word) (s : State) : (lineEvent n k ws s).pending = s.pending := by simp only [lineEvent]

/-! ### workOne -/

@[simp] theorem workOne_rstLow (n : Fin 192) (s : State) : (workOne n s).rstLow = s.rstLow := by simp only [workOne]
@[simp] theorem workOne_edit (n : Fin 192) (s : State) : (workOne n s).edit = s.edit := by simp only [workOne]
@[simp] theorem workOne_windowTicked (n : Fin 192) (s : State) : (workOne n s).windowTicked = s.windowTicked := by simp only [workOne]
@[simp] theorem workOne_desk (n : Fin 192) (s : State) : (workOne n s).desk = s.desk := by simp only [workOne]
@[simp] theorem workOne_alert (n : Fin 192) (s : State) : (workOne n s).alert = s.alert := by simp only [workOne]
@[simp] theorem workOne_link (n : Fin 192) (s : State) : (workOne n s).link = s.link := by simp only [workOne]
@[simp] theorem workOne_freeCount (n : Fin 192) (s : State) : (workOne n s).freeCount = s.freeCount := by simp only [workOne]
@[simp] theorem workOne_pending (n : Fin 192) (s : State) : (workOne n s).pending = s.pending := by simp only [workOne]

/-! ### clearAllStep -/

@[simp] theorem clearAllStep_rstLow (s : State) : (clearAllStep s).rstLow = s.rstLow := by simp only [clearAllStep]
@[simp] theorem clearAllStep_route (s : State) :
    (clearAllStep s).route = (carryOutClearAll s.route s.edit).1 := by simp only [clearAllStep]
@[simp] theorem clearAllStep_edit (s : State) :
    (clearAllStep s).edit = (carryOutClearAll s.route s.edit).2 := by simp only [clearAllStep]
@[simp] theorem clearAllStep_monitor (s : State) : (clearAllStep s).monitor = s.monitor := by simp only [clearAllStep]
@[simp] theorem clearAllStep_windowTicked (s : State) : (clearAllStep s).windowTicked = s.windowTicked := by simp only [clearAllStep]
@[simp] theorem clearAllStep_lanes (s : State) : (clearAllStep s).lanes = s.lanes := by simp only [clearAllStep]
@[simp] theorem clearAllStep_desk (s : State) : (clearAllStep s).desk = s.desk := by simp only [clearAllStep]
@[simp] theorem clearAllStep_alert (s : State) : (clearAllStep s).alert = s.alert := by simp only [clearAllStep]
@[simp] theorem clearAllStep_link (s : State) : (clearAllStep s).link = s.link := by simp only [clearAllStep]
@[simp] theorem clearAllStep_freeCount (s : State) : (clearAllStep s).freeCount = s.freeCount := by simp only [clearAllStep]
@[simp] theorem clearAllStep_pending (s : State) : (clearAllStep s).pending = s.pending := by simp only [clearAllStep]

/-! ### batchApplyStep -/

@[simp] theorem batchApplyStep_rstLow (s : State) : (batchApplyStep s).rstLow = s.rstLow := by simp only [batchApplyStep]
@[simp] theorem batchApplyStep_route (s : State) :
    (batchApplyStep s).route = (applyDue s.route s.edit).1 := by simp only [batchApplyStep]
@[simp] theorem batchApplyStep_edit (s : State) :
    (batchApplyStep s).edit = (applyDue s.route s.edit).2 := by simp only [batchApplyStep]
@[simp] theorem batchApplyStep_monitor (s : State) : (batchApplyStep s).monitor = s.monitor := by simp only [batchApplyStep]
@[simp] theorem batchApplyStep_windowTicked (s : State) : (batchApplyStep s).windowTicked = s.windowTicked := by simp only [batchApplyStep]
@[simp] theorem batchApplyStep_lanes (s : State) : (batchApplyStep s).lanes = s.lanes := by simp only [batchApplyStep]
@[simp] theorem batchApplyStep_desk (s : State) : (batchApplyStep s).desk = s.desk := by simp only [batchApplyStep]
@[simp] theorem batchApplyStep_alert (s : State) : (batchApplyStep s).alert = s.alert := by simp only [batchApplyStep]
@[simp] theorem batchApplyStep_link (s : State) : (batchApplyStep s).link = s.link := by simp only [batchApplyStep]
@[simp] theorem batchApplyStep_freeCount (s : State) : (batchApplyStep s).freeCount = s.freeCount := by simp only [batchApplyStep]
@[simp] theorem batchApplyStep_pending (s : State) : (batchApplyStep s).pending = s.pending := by simp only [batchApplyStep]

/-! ### setInService -/

@[simp] theorem setInService_rstLow (s : State) (c : AlertClass) (b : Bool) : (setInService s c b).rstLow = s.rstLow := by simp only [setInService]
@[simp] theorem setInService_route (s : State) (c : AlertClass) (b : Bool) : (setInService s c b).route = s.route := by simp only [setInService]
@[simp] theorem setInService_edit (s : State) (c : AlertClass) (b : Bool) : (setInService s c b).edit = s.edit := by simp only [setInService]
@[simp] theorem setInService_monitor (s : State) (c : AlertClass) (b : Bool) : (setInService s c b).monitor = s.monitor := by simp only [setInService]
@[simp] theorem setInService_windowTicked (s : State) (c : AlertClass) (b : Bool) : (setInService s c b).windowTicked = s.windowTicked := by simp only [setInService]
@[simp] theorem setInService_lanes (s : State) (c : AlertClass) (b : Bool) : (setInService s c b).lanes = s.lanes := by simp only [setInService]
@[simp] theorem setInService_desk (s : State) (c : AlertClass) (b : Bool) : (setInService s c b).desk = s.desk := by simp only [setInService]
@[simp] theorem setInService_alert (s : State) (c : AlertClass) (b : Bool) :
    (setInService s c b).alert = { s.alert with inService := setClassFlag s.alert.inService c b } := by simp only [setInService]
@[simp] theorem setInService_link (s : State) (c : AlertClass) (b : Bool) : (setInService s c b).link = s.link := by simp only [setInService]
@[simp] theorem setInService_freeCount (s : State) (c : AlertClass) (b : Bool) : (setInService s c b).freeCount = s.freeCount := by simp only [setInService]
@[simp] theorem setInService_pending (s : State) (c : AlertClass) (b : Bool) : (setInService s c b).pending = s.pending := by simp only [setInService]

/-! ### endService -/

@[simp] theorem endService_rstLow (s : State) (c : AlertClass) : (endService s c).rstLow = s.rstLow := by simp only [endService]
@[simp] theorem endService_route (s : State) (c : AlertClass) : (endService s c).route = s.route := by simp only [endService]
@[simp] theorem endService_edit (s : State) (c : AlertClass) : (endService s c).edit = s.edit := by simp only [endService]
@[simp] theorem endService_monitor (s : State) (c : AlertClass) : (endService s c).monitor = s.monitor := by simp only [endService]
@[simp] theorem endService_windowTicked (s : State) (c : AlertClass) : (endService s c).windowTicked = s.windowTicked := by simp only [endService]
@[simp] theorem endService_lanes (s : State) (c : AlertClass) : (endService s c).lanes = s.lanes := by simp only [endService]
@[simp] theorem endService_desk (s : State) (c : AlertClass) : (endService s c).desk = s.desk := by simp only [endService]
@[simp] theorem endService_link (s : State) (c : AlertClass) : (endService s c).link = s.link := by simp only [endService]
@[simp] theorem endService_freeCount (s : State) (c : AlertClass) : (endService s c).freeCount = s.freeCount := by simp only [endService]
@[simp] theorem endService_pending (s : State) (c : AlertClass) : (endService s c).pending = s.pending := by simp only [endService]

/-! ### putAlert -/

@[simp] theorem putAlert_rstLow (s : State) (mk : ClassFlags) (md : PriorityMode) (lo : AlertClass) (st : PinStyle) (w : Nat) : (putAlert s mk md lo st w).rstLow = s.rstLow := by simp only [putAlert]
@[simp] theorem putAlert_route (s : State) (mk : ClassFlags) (md : PriorityMode) (lo : AlertClass) (st : PinStyle) (w : Nat) : (putAlert s mk md lo st w).route = s.route := by simp only [putAlert]
@[simp] theorem putAlert_edit (s : State) (mk : ClassFlags) (md : PriorityMode) (lo : AlertClass) (st : PinStyle) (w : Nat) : (putAlert s mk md lo st w).edit = s.edit := by simp only [putAlert]
@[simp] theorem putAlert_monitor (s : State) (mk : ClassFlags) (md : PriorityMode) (lo : AlertClass) (st : PinStyle) (w : Nat) : (putAlert s mk md lo st w).monitor = s.monitor := by simp only [putAlert]
@[simp] theorem putAlert_windowTicked (s : State) (mk : ClassFlags) (md : PriorityMode) (lo : AlertClass) (st : PinStyle) (w : Nat) : (putAlert s mk md lo st w).windowTicked = s.windowTicked := by simp only [putAlert]
@[simp] theorem putAlert_lanes (s : State) (mk : ClassFlags) (md : PriorityMode) (lo : AlertClass) (st : PinStyle) (w : Nat) : (putAlert s mk md lo st w).lanes = s.lanes := by simp only [putAlert]
@[simp] theorem putAlert_desk (s : State) (mk : ClassFlags) (md : PriorityMode) (lo : AlertClass) (st : PinStyle) (w : Nat) : (putAlert s mk md lo st w).desk = s.desk := by simp only [putAlert]
@[simp] theorem putAlert_alert (s : State) (mk : ClassFlags) (md : PriorityMode) (lo : AlertClass) (st : PinStyle) (w : Nat) :
    (putAlert s mk md lo st w).alert = ⟨mk, s.alert.inService, md, lo, st, w, pulseAfterStyle s.alert.style st s.alert.pulse⟩ := by simp only [putAlert]
@[simp] theorem putAlert_link (s : State) (mk : ClassFlags) (md : PriorityMode) (lo : AlertClass) (st : PinStyle) (w : Nat) : (putAlert s mk md lo st w).link = s.link := by simp only [putAlert]
@[simp] theorem putAlert_freeCount (s : State) (mk : ClassFlags) (md : PriorityMode) (lo : AlertClass) (st : PinStyle) (w : Nat) : (putAlert s mk md lo st w).freeCount = s.freeCount := by simp only [putAlert]
@[simp] theorem putAlert_pending (s : State) (mk : ClassFlags) (md : PriorityMode) (lo : AlertClass) (st : PinStyle) (w : Nat) : (putAlert s mk md lo st w).pending = s.pending := by simp only [putAlert]

/-! ### setDeskIn -/

@[simp] theorem setDeskIn_rstLow (s : State) (p : Fin 4) (e : Bool) : (setDeskIn s p e).rstLow = s.rstLow := by simp only [setDeskIn]
@[simp] theorem setDeskIn_route (s : State) (p : Fin 4) (e : Bool) : (setDeskIn s p e).route = s.route := by simp only [setDeskIn]
@[simp] theorem setDeskIn_edit (s : State) (p : Fin 4) (e : Bool) : (setDeskIn s p e).edit = s.edit := by simp only [setDeskIn]
@[simp] theorem setDeskIn_windowTicked (s : State) (p : Fin 4) (e : Bool) : (setDeskIn s p e).windowTicked = s.windowTicked := by simp only [setDeskIn]
@[simp] theorem setDeskIn_lanes (s : State) (p : Fin 4) (e : Bool) : (setDeskIn s p e).lanes = s.lanes := by simp only [setDeskIn]
@[simp] theorem setDeskIn_alert (s : State) (p : Fin 4) (e : Bool) : (setDeskIn s p e).alert = s.alert := by simp only [setDeskIn]
@[simp] theorem setDeskIn_link (s : State) (p : Fin 4) (e : Bool) : (setDeskIn s p e).link = s.link := by simp only [setDeskIn]
@[simp] theorem setDeskIn_freeCount (s : State) (p : Fin 4) (e : Bool) : (setDeskIn s p e).freeCount = s.freeCount := by simp only [setDeskIn]
@[simp] theorem setDeskIn_pending (s : State) (p : Fin 4) (e : Bool) : (setDeskIn s p e).pending = s.pending := by simp only [setDeskIn]

/-! ### setDeskOut -/

@[simp] theorem setDeskOut_rstLow (s : State) (p : Fin 4) (e : Bool) : (setDeskOut s p e).rstLow = s.rstLow := by simp only [setDeskOut]
@[simp] theorem setDeskOut_route (s : State) (p : Fin 4) (e : Bool) : (setDeskOut s p e).route = s.route := by simp only [setDeskOut]
@[simp] theorem setDeskOut_edit (s : State) (p : Fin 4) (e : Bool) : (setDeskOut s p e).edit = s.edit := by simp only [setDeskOut]
@[simp] theorem setDeskOut_monitor (s : State) (p : Fin 4) (e : Bool) : (setDeskOut s p e).monitor = s.monitor := by simp only [setDeskOut]
@[simp] theorem setDeskOut_windowTicked (s : State) (p : Fin 4) (e : Bool) : (setDeskOut s p e).windowTicked = s.windowTicked := by simp only [setDeskOut]
@[simp] theorem setDeskOut_lanes (s : State) (p : Fin 4) (e : Bool) : (setDeskOut s p e).lanes = s.lanes := by simp only [setDeskOut]
@[simp] theorem setDeskOut_alert (s : State) (p : Fin 4) (e : Bool) : (setDeskOut s p e).alert = s.alert := by simp only [setDeskOut]
@[simp] theorem setDeskOut_link (s : State) (p : Fin 4) (e : Bool) : (setDeskOut s p e).link = s.link := by simp only [setDeskOut]
@[simp] theorem setDeskOut_freeCount (s : State) (p : Fin 4) (e : Bool) : (setDeskOut s p e).freeCount = s.freeCount := by simp only [setDeskOut]
@[simp] theorem setDeskOut_pending (s : State) (p : Fin 4) (e : Bool) : (setDeskOut s p e).pending = s.pending := by simp only [setDeskOut]

/-! ### restartLane -/

@[simp] theorem restartLane_rstLow (s : State) (n : Fin 8) : (restartLane s n).rstLow = s.rstLow := by simp only [restartLane]
@[simp] theorem restartLane_route (s : State) (n : Fin 8) : (restartLane s n).route = s.route := by simp only [restartLane]
@[simp] theorem restartLane_edit (s : State) (n : Fin 8) : (restartLane s n).edit = s.edit := by simp only [restartLane]
@[simp] theorem restartLane_monitor (s : State) (n : Fin 8) :
    (restartLane s n).monitor = idleLaneSources s.monitor n := by simp only [restartLane]
@[simp] theorem restartLane_windowTicked (s : State) (n : Fin 8) : (restartLane s n).windowTicked = s.windowTicked := by simp only [restartLane]
@[simp] theorem restartLane_lanes (s : State) (n : Fin 8) :
    (restartLane s n).lanes = bankModify s.lanes n fun l => restartTransmit s.route n (restartReceive l) := by simp only [restartLane]
@[simp] theorem restartLane_desk (s : State) (n : Fin 8) : (restartLane s n).desk = s.desk := by simp only [restartLane]
@[simp] theorem restartLane_alert (s : State) (n : Fin 8) : (restartLane s n).alert = s.alert := by simp only [restartLane]
@[simp] theorem restartLane_link (s : State) (n : Fin 8) : (restartLane s n).link = s.link := by simp only [restartLane]
@[simp] theorem restartLane_freeCount (s : State) (n : Fin 8) : (restartLane s n).freeCount = s.freeCount := by simp only [restartLane]
@[simp] theorem restartLane_pending (s : State) (n : Fin 8) : (restartLane s n).pending = s.pending := by simp only [restartLane]

/-! ### setRecord -/

@[simp] theorem setRecord_slots (rt : RouteTable) (i : Fin 160) (r : Record) :
    (setRecord rt i r).slots = bankModify rt.slots i fun sl => { sl with record := some r } := by simp only [setRecord]
@[simp] theorem setRecord_destMap (rt : RouteTable) (i : Fin 160) (r : Record) : (setRecord rt i r).destMap = rt.destMap := by simp only [setRecord]
@[simp] theorem setRecord_guards (rt : RouteTable) (i : Fin 160) (r : Record) : (setRecord rt i r).guards = rt.guards := by simp only [setRecord]
@[simp] theorem setRecord_clearAll (rt : RouteTable) (i : Fin 160) (r : Record) : (setRecord rt i r).clearAll = rt.clearAll := by simp only [setRecord]
@[simp] theorem setRecord_pendingLost (rt : RouteTable) (i : Fin 160) (r : Record) : (setRecord rt i r).pendingLost = rt.pendingLost := by simp only [setRecord]
@[simp] theorem setRecord_pendingQuiet (rt : RouteTable) (i : Fin 160) (r : Record) : (setRecord rt i r).pendingQuiet = rt.pendingQuiet := by simp only [setRecord]
@[simp] theorem setRecord_destSamples (rt : RouteTable) (i : Fin 160) (r : Record) : (setRecord rt i r).destSamples = rt.destSamples := by simp only [setRecord]
@[simp] theorem setRecord_destMeters (rt : RouteTable) (i : Fin 160) (r : Record) : (setRecord rt i r).destMeters = rt.destMeters := by simp only [setRecord]

/-! ### freeRecord -/

@[simp] theorem freeRecord_slots (rt : RouteTable) (i : Fin 160) (d : Fin 192) :
    (freeRecord rt i d).slots = bankModify rt.slots i fun sl => ⟨nextGen sl.gen, none⟩ := by simp only [freeRecord]
@[simp] theorem freeRecord_destMap (rt : RouteTable) (i : Fin 160) (d : Fin 192) :
    (freeRecord rt i d).destMap = bankSet rt.destMap d none := by simp only [freeRecord]
@[simp] theorem freeRecord_guards (rt : RouteTable) (i : Fin 160) (d : Fin 192) : (freeRecord rt i d).guards = rt.guards := by simp only [freeRecord]
@[simp] theorem freeRecord_clearAll (rt : RouteTable) (i : Fin 160) (d : Fin 192) : (freeRecord rt i d).clearAll = rt.clearAll := by simp only [freeRecord]
@[simp] theorem freeRecord_pendingLost (rt : RouteTable) (i : Fin 160) (d : Fin 192) : (freeRecord rt i d).pendingLost = rt.pendingLost := by simp only [freeRecord]
@[simp] theorem freeRecord_pendingQuiet (rt : RouteTable) (i : Fin 160) (d : Fin 192) : (freeRecord rt i d).pendingQuiet = rt.pendingQuiet := by simp only [freeRecord]
@[simp] theorem freeRecord_destSamples (rt : RouteTable) (i : Fin 160) (d : Fin 192) : (freeRecord rt i d).destSamples = rt.destSamples := by simp only [freeRecord]
@[simp] theorem freeRecord_destMeters (rt : RouteTable) (i : Fin 160) (d : Fin 192) : (freeRecord rt i d).destMeters = rt.destMeters := by simp only [freeRecord]

/-! ### computeSamples -/

@[simp] theorem computeSamples_slots (sources : Vector Source 192) (rt : RouteTable) :
    (computeSamples sources rt).slots = bankMap (clipSlot sources) rt.slots := by simp only [computeSamples]
@[simp] theorem computeSamples_destMap (sources : Vector Source 192) (rt : RouteTable) : (computeSamples sources rt).destMap = rt.destMap := by simp only [computeSamples]
@[simp] theorem computeSamples_guards (sources : Vector Source 192) (rt : RouteTable) : (computeSamples sources rt).guards = rt.guards := by simp only [computeSamples]
@[simp] theorem computeSamples_clearAll (sources : Vector Source 192) (rt : RouteTable) : (computeSamples sources rt).clearAll = rt.clearAll := by simp only [computeSamples]
@[simp] theorem computeSamples_pendingLost (sources : Vector Source 192) (rt : RouteTable) : (computeSamples sources rt).pendingLost = rt.pendingLost := by simp only [computeSamples]
@[simp] theorem computeSamples_pendingQuiet (sources : Vector Source 192) (rt : RouteTable) : (computeSamples sources rt).pendingQuiet = rt.pendingQuiet := by simp only [computeSamples]
@[simp] theorem computeSamples_destSamples (sources : Vector Source 192) (rt : RouteTable) :
    (computeSamples sources rt).destSamples = Vector.ofFn fun d => destSample rt sources d := by simp only [computeSamples]
@[simp] theorem computeSamples_destMeters (sources : Vector Source 192) (rt : RouteTable) :
    (computeSamples sources rt).destMeters = bankMapIdx (fun d m => meterTake m (destSample rt sources d)) rt.destMeters := by simp only [computeSamples]

/-! ### advanceRamps -/

@[simp] theorem advanceRamps_slots (rt : RouteTable) :
    (advanceRamps rt).slots = bankMap advanceSlot rt.slots := by simp only [advanceRamps]
@[simp] theorem advanceRamps_destMap (rt : RouteTable) :
    (advanceRamps rt).destMap = bankMap (mapAfterAdvance rt.slots) rt.destMap := by simp only [advanceRamps]
@[simp] theorem advanceRamps_guards (rt : RouteTable) : (advanceRamps rt).guards = rt.guards := by simp only [advanceRamps]
@[simp] theorem advanceRamps_clearAll (rt : RouteTable) : (advanceRamps rt).clearAll = rt.clearAll := by simp only [advanceRamps]
@[simp] theorem advanceRamps_pendingLost (rt : RouteTable) : (advanceRamps rt).pendingLost = rt.pendingLost := by simp only [advanceRamps]
@[simp] theorem advanceRamps_pendingQuiet (rt : RouteTable) : (advanceRamps rt).pendingQuiet = rt.pendingQuiet := by simp only [advanceRamps]
@[simp] theorem advanceRamps_destSamples (rt : RouteTable) : (advanceRamps rt).destSamples = rt.destSamples := by simp only [advanceRamps]
@[simp] theorem advanceRamps_destMeters (rt : RouteTable) : (advanceRamps rt).destMeters = rt.destMeters := by simp only [advanceRamps]

/-! ### failover -/

@[simp] theorem failover_slots (sources : Vector Source 192) (tk : Taken) (rt : RouteTable) :
    (failover sources tk rt).slots = bankMap (fun sl => { sl with record := sl.record.map (failoverRecord sources tk) }) rt.slots := by simp only [failover]
@[simp] theorem failover_destMap (sources : Vector Source 192) (tk : Taken) (rt : RouteTable) : (failover sources tk rt).destMap = rt.destMap := by simp only [failover]
@[simp] theorem failover_guards (sources : Vector Source 192) (tk : Taken) (rt : RouteTable) : (failover sources tk rt).guards = rt.guards := by simp only [failover]
@[simp] theorem failover_clearAll (sources : Vector Source 192) (tk : Taken) (rt : RouteTable) : (failover sources tk rt).clearAll = rt.clearAll := by simp only [failover]
@[simp] theorem failover_pendingLost (sources : Vector Source 192) (tk : Taken) (rt : RouteTable) : (failover sources tk rt).pendingLost = rt.pendingLost := by simp only [failover]
@[simp] theorem failover_pendingQuiet (sources : Vector Source 192) (tk : Taken) (rt : RouteTable) : (failover sources tk rt).pendingQuiet = rt.pendingQuiet := by simp only [failover]
@[simp] theorem failover_destSamples (sources : Vector Source 192) (tk : Taken) (rt : RouteTable) : (failover sources tk rt).destSamples = rt.destSamples := by simp only [failover]
@[simp] theorem failover_destMeters (sources : Vector Source 192) (tk : Taken) (rt : RouteTable) : (failover sources tk rt).destMeters = rt.destMeters := by simp only [failover]

/-! ### takeTriggers -/

@[simp] theorem takeTriggers_slots (sources : Vector Source 192) (rt : RouteTable) :
    (takeTriggers sources rt).slots = (failover sources ⟨rt.pendingLost, rt.pendingQuiet⟩ rt).slots := by simp only [takeTriggers, failover]
@[simp] theorem takeTriggers_destMap (sources : Vector Source 192) (rt : RouteTable) : (takeTriggers sources rt).destMap = rt.destMap := by simp only [takeTriggers, failover]
@[simp] theorem takeTriggers_guards (sources : Vector Source 192) (rt : RouteTable) : (takeTriggers sources rt).guards = rt.guards := by simp only [takeTriggers, failover]
@[simp] theorem takeTriggers_clearAll (sources : Vector Source 192) (rt : RouteTable) : (takeTriggers sources rt).clearAll = rt.clearAll := by simp only [takeTriggers, failover]
@[simp] theorem takeTriggers_pendingLost (sources : Vector Source 192) (rt : RouteTable) :
    (takeTriggers sources rt).pendingLost = Vector.replicate 192 false := by simp only [takeTriggers, failover]
@[simp] theorem takeTriggers_pendingQuiet (sources : Vector Source 192) (rt : RouteTable) :
    (takeTriggers sources rt).pendingQuiet = Vector.replicate 192 false := by simp only [takeTriggers, failover]
@[simp] theorem takeTriggers_destSamples (sources : Vector Source 192) (rt : RouteTable) : (takeTriggers sources rt).destSamples = rt.destSamples := by simp only [takeTriggers, failover]
@[simp] theorem takeTriggers_destMeters (sources : Vector Source 192) (rt : RouteTable) : (takeTriggers sources rt).destMeters = rt.destMeters := by simp only [takeTriggers, failover]

/-! ### clearRoutes -/

@[simp] theorem clearRoutes_slots (rt : RouteTable) (f : Bool) :
    (clearRoutes rt f).slots = bankMap (fun sl => { sl with record := sl.record.map (clearRecord rt f) }) rt.slots := by simp only [clearRoutes]
@[simp] theorem clearRoutes_destMap (rt : RouteTable) (f : Bool) : (clearRoutes rt f).destMap = rt.destMap := by simp only [clearRoutes]
@[simp] theorem clearRoutes_guards (rt : RouteTable) (f : Bool) : (clearRoutes rt f).guards = rt.guards := by simp only [clearRoutes]
@[simp] theorem clearRoutes_clearAll (rt : RouteTable) (f : Bool) :
    (clearRoutes rt f).clearAll = none := by simp only [clearRoutes]
@[simp] theorem clearRoutes_pendingLost (rt : RouteTable) (f : Bool) : (clearRoutes rt f).pendingLost = rt.pendingLost := by simp only [clearRoutes]
@[simp] theorem clearRoutes_pendingQuiet (rt : RouteTable) (f : Bool) : (clearRoutes rt f).pendingQuiet = rt.pendingQuiet := by simp only [clearRoutes]
@[simp] theorem clearRoutes_destSamples (rt : RouteTable) (f : Bool) : (clearRoutes rt f).destSamples = rt.destSamples := by simp only [clearRoutes]
@[simp] theorem clearRoutes_destMeters (rt : RouteTable) (f : Bool) : (clearRoutes rt f).destMeters = rt.destMeters := by simp only [clearRoutes]

/-! ### latchDestMeters -/

@[simp] theorem latchDestMeters_slots (rt : RouteTable) : (latchDestMeters rt).slots = rt.slots := by simp only [latchDestMeters]
@[simp] theorem latchDestMeters_destMap (rt : RouteTable) : (latchDestMeters rt).destMap = rt.destMap := by simp only [latchDestMeters]
@[simp] theorem latchDestMeters_guards (rt : RouteTable) : (latchDestMeters rt).guards = rt.guards := by simp only [latchDestMeters]
@[simp] theorem latchDestMeters_clearAll (rt : RouteTable) : (latchDestMeters rt).clearAll = rt.clearAll := by simp only [latchDestMeters]
@[simp] theorem latchDestMeters_pendingLost (rt : RouteTable) : (latchDestMeters rt).pendingLost = rt.pendingLost := by simp only [latchDestMeters]
@[simp] theorem latchDestMeters_pendingQuiet (rt : RouteTable) : (latchDestMeters rt).pendingQuiet = rt.pendingQuiet := by simp only [latchDestMeters]
@[simp] theorem latchDestMeters_destSamples (rt : RouteTable) : (latchDestMeters rt).destSamples = rt.destSamples := by simp only [latchDestMeters]
@[simp] theorem latchDestMeters_destMeters (rt : RouteTable) :
    (latchDestMeters rt).destMeters = bankMap meterLatch rt.destMeters := by simp only [latchDestMeters]

/-! ### addTriggers -/

@[simp] theorem addTriggers_slots (rt : RouteTable) (l q : Fin 192 → Bool) : (addTriggers rt l q).slots = rt.slots := by simp only [addTriggers]
@[simp] theorem addTriggers_destMap (rt : RouteTable) (l q : Fin 192 → Bool) : (addTriggers rt l q).destMap = rt.destMap := by simp only [addTriggers]
@[simp] theorem addTriggers_guards (rt : RouteTable) (l q : Fin 192 → Bool) : (addTriggers rt l q).guards = rt.guards := by simp only [addTriggers]
@[simp] theorem addTriggers_clearAll (rt : RouteTable) (l q : Fin 192 → Bool) : (addTriggers rt l q).clearAll = rt.clearAll := by simp only [addTriggers]
@[simp] theorem addTriggers_pendingLost (rt : RouteTable) (l q : Fin 192 → Bool) :
    (addTriggers rt l q).pendingLost = bankMapIdx (fun n old => old || l n) rt.pendingLost := by simp only [addTriggers]
@[simp] theorem addTriggers_pendingQuiet (rt : RouteTable) (l q : Fin 192 → Bool) :
    (addTriggers rt l q).pendingQuiet = bankMapIdx (fun n old => old || q n) rt.pendingQuiet := by simp only [addTriggers]
@[simp] theorem addTriggers_destSamples (rt : RouteTable) (l q : Fin 192 → Bool) : (addTriggers rt l q).destSamples = rt.destSamples := by simp only [addTriggers]
@[simp] theorem addTriggers_destMeters (rt : RouteTable) (l q : Fin 192 → Bool) : (addTriggers rt l q).destMeters = rt.destMeters := by simp only [addTriggers]

/-! ### askClearAll -/

@[simp] theorem askClearAll_slots (rt : RouteTable) (f : Bool) : (askClearAll rt f).slots = rt.slots := by simp only [askClearAll]
@[simp] theorem askClearAll_destMap (rt : RouteTable) (f : Bool) : (askClearAll rt f).destMap = rt.destMap := by simp only [askClearAll]
@[simp] theorem askClearAll_guards (rt : RouteTable) (f : Bool) : (askClearAll rt f).guards = rt.guards := by simp only [askClearAll]
@[simp] theorem askClearAll_clearAll (rt : RouteTable) (f : Bool) :
    (askClearAll rt f).clearAll = some (f || rt.clearAll.getD false) := by simp only [askClearAll]
@[simp] theorem askClearAll_pendingLost (rt : RouteTable) (f : Bool) : (askClearAll rt f).pendingLost = rt.pendingLost := by simp only [askClearAll]
@[simp] theorem askClearAll_pendingQuiet (rt : RouteTable) (f : Bool) : (askClearAll rt f).pendingQuiet = rt.pendingQuiet := by simp only [askClearAll]
@[simp] theorem askClearAll_destSamples (rt : RouteTable) (f : Bool) : (askClearAll rt f).destSamples = rt.destSamples := by simp only [askClearAll]
@[simp] theorem askClearAll_destMeters (rt : RouteTable) (f : Bool) : (askClearAll rt f).destMeters = rt.destMeters := by simp only [askClearAll]

/-! ### setSlot -/

@[simp] theorem setSlot_slots (es : EditStage) (i : Fin 4) (b : BatchSlot) :
    (setSlot es i b).slots = bankSet es.slots i b := by simp only [setSlot]
@[simp] theorem setSlot_queue (es : EditStage) (i : Fin 4) (b : BatchSlot) : (setSlot es i b).queue = es.queue := by simp only [setSlot]
@[simp] theorem setSlot_nextArming (es : EditStage) (i : Fin 4) (b : BatchSlot) : (setSlot es i b).nextArming = es.nextArming := by simp only [setSlot]

/-! ### freeSlot -/

@[simp] theorem freeSlot_slots (es : EditStage) (i : Fin 4) :
    (freeSlot es i).slots = bankSet es.slots i .free := by simp only [freeSlot]
@[simp] theorem freeSlot_queue (es : EditStage) (i : Fin 4) :
    (freeSlot es i).queue = es.queue.filter (· ≠ i) := by simp only [freeSlot]
@[simp] theorem freeSlot_nextArming (es : EditStage) (i : Fin 4) : (freeSlot es i).nextArming = es.nextArming := by simp only [freeSlot]

/-! ### armSlot -/

@[simp] theorem armSlot_slots (es : EditStage) (i : Fin 4) (l : List ListedEdit) (m : BatchMode) (t : Timing) :
    (armSlot es i l m t).slots = bankSet es.slots i (.armed l m t es.nextArming) := by simp only [armSlot]
@[simp] theorem armSlot_queue (es : EditStage) (i : Fin 4) (l : List ListedEdit) (m : BatchMode) (t : Timing) :
    (armSlot es i l m t).queue = es.queue ++ [i] := by simp only [armSlot]
@[simp] theorem armSlot_nextArming (es : EditStage) (i : Fin 4) (l : List ListedEdit) (m : BatchMode) (t : Timing) :
    (armSlot es i l m t).nextArming = es.nextArming + 1#8 := by simp only [armSlot]

/-! ### switchPoint -/

@[simp] theorem switchPoint_slots (src : TimingSource) (es : EditStage) :
    (switchPoint src es).slots = bankMap (countSlot src) es.slots := by simp only [switchPoint]
@[simp] theorem switchPoint_queue (src : TimingSource) (es : EditStage) : (switchPoint src es).queue = es.queue := by simp only [switchPoint]
@[simp] theorem switchPoint_nextArming (src : TimingSource) (es : EditStage) : (switchPoint src es).nextArming = es.nextArming := by simp only [switchPoint]

/-! ### clearBatches -/

@[simp] theorem clearBatches_slots (es : EditStage) :
    (clearBatches es).slots = bankMap clearBatchSlot es.slots := by simp only [clearBatches]
@[simp] theorem clearBatches_queue (es : EditStage) :
    (clearBatches es).queue = [] := by simp only [clearBatches]
@[simp] theorem clearBatches_nextArming (es : EditStage) : (clearBatches es).nextArming = es.nextArming := by simp only [clearBatches]

/-! ### becomePresent -/

@[simp] theorem becomePresent_presence (l : Lane) :
    (becomePresent l).presence = .present 0 := by simp only [becomePresent]
@[simp] theorem becomePresent_changeFlag (l : Lane) :
    (becomePresent l).changeFlag = (l.changeFlag || isAbsent l) := by simp only [becomePresent]
@[simp] theorem becomePresent_settings (l : Lane) : (becomePresent l).settings = l.settings := by simp only [becomePresent]
@[simp] theorem becomePresent_pendingSettings (l : Lane) : (becomePresent l).pendingSettings = l.pendingSettings := by simp only [becomePresent]
@[simp] theorem becomePresent_excess (l : Lane) : (becomePresent l).excess = l.excess := by simp only [becomePresent]
@[simp] theorem becomePresent_truncated (l : Lane) : (becomePresent l).truncated = l.truncated := by simp only [becomePresent]
@[simp] theorem becomePresent_checkError (l : Lane) : (becomePresent l).checkError = l.checkError := by simp only [becomePresent]
@[simp] theorem becomePresent_malformed (l : Lane) : (becomePresent l).malformed = l.malformed := by simp only [becomePresent]
@[simp] theorem becomePresent_inBundles (l : Lane) : (becomePresent l).inBundles = l.inBundles := by simp only [becomePresent]
@[simp] theorem becomePresent_outBundles (l : Lane) : (becomePresent l).outBundles = l.outBundles := by simp only [becomePresent]
@[simp] theorem becomePresent_pointer (l : Lane) : (becomePresent l).pointer = l.pointer := by simp only [becomePresent]
@[simp] theorem becomePresent_outLine (l : Lane) : (becomePresent l).outLine = l.outLine := by simp only [becomePresent]

/-! ### restartReceive -/

@[simp] theorem restartReceive_presence (l : Lane) : (restartReceive l).presence = l.presence := by simp only [restartReceive]
@[simp] theorem restartReceive_changeFlag (l : Lane) : (restartReceive l).changeFlag = l.changeFlag := by simp only [restartReceive]
@[simp] theorem restartReceive_settings (l : Lane) : (restartReceive l).settings = l.settings := by simp only [restartReceive]
@[simp] theorem restartReceive_pendingSettings (l : Lane) : (restartReceive l).pendingSettings = l.pendingSettings := by simp only [restartReceive]
@[simp] theorem restartReceive_excess (l : Lane) :
    (restartReceive l).excess = 0 := by simp only [restartReceive]
@[simp] theorem restartReceive_truncated (l : Lane) :
    (restartReceive l).truncated = 0 := by simp only [restartReceive]
@[simp] theorem restartReceive_checkError (l : Lane) :
    (restartReceive l).checkError = 0 := by simp only [restartReceive]
@[simp] theorem restartReceive_malformed (l : Lane) :
    (restartReceive l).malformed = 0 := by simp only [restartReceive]
@[simp] theorem restartReceive_inBundles (l : Lane) :
    (restartReceive l).inBundles = bankMap (fun _ => ⟨none, 0⟩) l.inBundles := by simp only [restartReceive]
@[simp] theorem restartReceive_outBundles (l : Lane) : (restartReceive l).outBundles = l.outBundles := by simp only [restartReceive]
@[simp] theorem restartReceive_pointer (l : Lane) : (restartReceive l).pointer = l.pointer := by simp only [restartReceive]
@[simp] theorem restartReceive_outLine (l : Lane) : (restartReceive l).outLine = l.outLine := by simp only [restartReceive]

/-! ### restartTransmit -/

@[simp] theorem restartTransmit_presence (rt : RouteTable) (n : Fin 8) (l : Lane) : (restartTransmit rt n l).presence = l.presence := by simp only [restartTransmit]
@[simp] theorem restartTransmit_changeFlag (rt : RouteTable) (n : Fin 8) (l : Lane) : (restartTransmit rt n l).changeFlag = l.changeFlag := by simp only [restartTransmit]
@[simp] theorem restartTransmit_settings (rt : RouteTable) (n : Fin 8) (l : Lane) : (restartTransmit rt n l).settings = l.settings := by simp only [restartTransmit]
@[simp] theorem restartTransmit_pendingSettings (rt : RouteTable) (n : Fin 8) (l : Lane) : (restartTransmit rt n l).pendingSettings = l.pendingSettings := by simp only [restartTransmit]
@[simp] theorem restartTransmit_excess (rt : RouteTable) (n : Fin 8) (l : Lane) : (restartTransmit rt n l).excess = l.excess := by simp only [restartTransmit]
@[simp] theorem restartTransmit_truncated (rt : RouteTable) (n : Fin 8) (l : Lane) : (restartTransmit rt n l).truncated = l.truncated := by simp only [restartTransmit]
@[simp] theorem restartTransmit_checkError (rt : RouteTable) (n : Fin 8) (l : Lane) : (restartTransmit rt n l).checkError = l.checkError := by simp only [restartTransmit]
@[simp] theorem restartTransmit_malformed (rt : RouteTable) (n : Fin 8) (l : Lane) : (restartTransmit rt n l).malformed = l.malformed := by simp only [restartTransmit]
@[simp] theorem restartTransmit_inBundles (rt : RouteTable) (n : Fin 8) (l : Lane) : (restartTransmit rt n l).inBundles = l.inBundles := by simp only [restartTransmit]
@[simp] theorem restartTransmit_outBundles (rt : RouteTable) (n : Fin 8) (l : Lane) :
    (restartTransmit rt n l).outBundles = bankMapIdx (fun j b => restartBundle (isRouted rt.destMap n j) b) l.outBundles := by simp only [restartTransmit]
@[simp] theorem restartTransmit_pointer (rt : RouteTable) (n : Fin 8) (l : Lane) :
    (restartTransmit rt n l).pointer = l.settings.lowest := by simp only [restartTransmit]
@[simp] theorem restartTransmit_outLine (rt : RouteTable) (n : Fin 8) (l : Lane) : (restartTransmit rt n l).outLine = l.outLine := by simp only [restartTransmit]

/-! ### transmitLine -/

@[simp] theorem transmitLine_presence (l : Lane) (k : Nat) (list : List Received) : (transmitLine l k list).presence = l.presence := by simp only [transmitLine]
@[simp] theorem transmitLine_changeFlag (l : Lane) (k : Nat) (list : List Received) : (transmitLine l k list).changeFlag = l.changeFlag := by simp only [transmitLine]
@[simp] theorem transmitLine_settings (l : Lane) (k : Nat) (list : List Received) : (transmitLine l k list).settings = l.settings := by simp only [transmitLine]
@[simp] theorem transmitLine_pendingSettings (l : Lane) (k : Nat) (list : List Received) : (transmitLine l k list).pendingSettings = l.pendingSettings := by simp only [transmitLine]
@[simp] theorem transmitLine_excess (l : Lane) (k : Nat) (list : List Received) : (transmitLine l k list).excess = l.excess := by simp only [transmitLine]
@[simp] theorem transmitLine_truncated (l : Lane) (k : Nat) (list : List Received) : (transmitLine l k list).truncated = l.truncated := by simp only [transmitLine]
@[simp] theorem transmitLine_checkError (l : Lane) (k : Nat) (list : List Received) : (transmitLine l k list).checkError = l.checkError := by simp only [transmitLine]
@[simp] theorem transmitLine_malformed (l : Lane) (k : Nat) (list : List Received) : (transmitLine l k list).malformed = l.malformed := by simp only [transmitLine]
@[simp] theorem transmitLine_inBundles (l : Lane) (k : Nat) (list : List Received) : (transmitLine l k list).inBundles = l.inBundles := by simp only [transmitLine]
@[simp] theorem transmitLine_outBundles (l : Lane) (k : Nat) (list : List Received) :
    (transmitLine l k list).outBundles = (arbitrate l (keptPackets l list)).bundles := by simp only [transmitLine]
@[simp] theorem transmitLine_pointer (l : Lane) (k : Nat) (list : List Received) :
    (transmitLine l k list).pointer = nextPointer l (arbitrate l (keptPackets l list)).last := by simp only [transmitLine]
@[simp] theorem transmitLine_outLine (l : Lane) (k : Nat) (list : List Received) :
    (transmitLine l k list).outLine = some ⟨k, keptPackets l list ++ (arbitrate l (keptPackets l list)).packets,
      (arbitrate l (keptPackets l list)).granted, turnsLeft l (arbitrate l (keptPackets l list))⟩ := by simp only [transmitLine]

/-! ### clearLaneCounters -/

@[simp] theorem clearLaneCounters_presence (l : Lane) : (clearLaneCounters l).presence = l.presence := by simp only [clearLaneCounters]
@[simp] theorem clearLaneCounters_changeFlag (l : Lane) : (clearLaneCounters l).changeFlag = l.changeFlag := by simp only [clearLaneCounters]
@[simp] theorem clearLaneCounters_settings (l : Lane) : (clearLaneCounters l).settings = l.settings := by simp only [clearLaneCounters]
@[simp] theorem clearLaneCounters_pendingSettings (l : Lane) : (clearLaneCounters l).pendingSettings = l.pendingSettings := by simp only [clearLaneCounters]
@[simp] theorem clearLaneCounters_excess (l : Lane) :
    (clearLaneCounters l).excess = 0 := by simp only [clearLaneCounters]
@[simp] theorem clearLaneCounters_truncated (l : Lane) :
    (clearLaneCounters l).truncated = 0 := by simp only [clearLaneCounters]
@[simp] theorem clearLaneCounters_checkError (l : Lane) :
    (clearLaneCounters l).checkError = 0 := by simp only [clearLaneCounters]
@[simp] theorem clearLaneCounters_malformed (l : Lane) :
    (clearLaneCounters l).malformed = 0 := by simp only [clearLaneCounters]
@[simp] theorem clearLaneCounters_inBundles (l : Lane) :
    (clearLaneCounters l).inBundles = bankMap (fun b => { b with gap := 0 }) l.inBundles := by simp only [clearLaneCounters]
@[simp] theorem clearLaneCounters_outBundles (l : Lane) :
    (clearLaneCounters l).outBundles = bankMap (fun b => { b with overflow := 0 }) l.outBundles := by simp only [clearLaneCounters]
@[simp] theorem clearLaneCounters_pointer (l : Lane) : (clearLaneCounters l).pointer = l.pointer := by simp only [clearLaneCounters]
@[simp] theorem clearLaneCounters_outLine (l : Lane) : (clearLaneCounters l).outLine = l.outLine := by simp only [clearLaneCounters]

/-! ### resetReferences -/

@[simp] theorem resetReferences_presence (w : Vector SourceWork 192) (n : Fin 8) (l : Lane) : (resetReferences w n l).presence = l.presence := by simp only [resetReferences]
@[simp] theorem resetReferences_changeFlag (w : Vector SourceWork 192) (n : Fin 8) (l : Lane) : (resetReferences w n l).changeFlag = l.changeFlag := by simp only [resetReferences]
@[simp] theorem resetReferences_settings (w : Vector SourceWork 192) (n : Fin 8) (l : Lane) : (resetReferences w n l).settings = l.settings := by simp only [resetReferences]
@[simp] theorem resetReferences_pendingSettings (w : Vector SourceWork 192) (n : Fin 8) (l : Lane) : (resetReferences w n l).pendingSettings = l.pendingSettings := by simp only [resetReferences]
@[simp] theorem resetReferences_excess (w : Vector SourceWork 192) (n : Fin 8) (l : Lane) : (resetReferences w n l).excess = l.excess := by simp only [resetReferences]
@[simp] theorem resetReferences_truncated (w : Vector SourceWork 192) (n : Fin 8) (l : Lane) : (resetReferences w n l).truncated = l.truncated := by simp only [resetReferences]
@[simp] theorem resetReferences_checkError (w : Vector SourceWork 192) (n : Fin 8) (l : Lane) : (resetReferences w n l).checkError = l.checkError := by simp only [resetReferences]
@[simp] theorem resetReferences_malformed (w : Vector SourceWork 192) (n : Fin 8) (l : Lane) : (resetReferences w n l).malformed = l.malformed := by simp only [resetReferences]
@[simp] theorem resetReferences_inBundles (w : Vector SourceWork 192) (n : Fin 8) (l : Lane) :
    (resetReferences w n l).inBundles = bankMapIdx (resetReference w n) l.inBundles := by simp only [resetReferences]
@[simp] theorem resetReferences_outBundles (w : Vector SourceWork 192) (n : Fin 8) (l : Lane) : (resetReferences w n l).outBundles = l.outBundles := by simp only [resetReferences]
@[simp] theorem resetReferences_pointer (w : Vector SourceWork 192) (n : Fin 8) (l : Lane) : (resetReferences w n l).pointer = l.pointer := by simp only [resetReferences]
@[simp] theorem resetReferences_outLine (w : Vector SourceWork 192) (n : Fin 8) (l : Lane) : (resetReferences w n l).outLine = l.outLine := by simp only [resetReferences]

/-! ### makeIdle -/

@[simp] theorem makeIdle_state (s : Source) :
    (makeIdle s).state = .idle := rfl
@[simp] theorem makeIdle_fifo (s : Source) :
    (makeIdle s).fifo = [] := rfl
@[simp] theorem makeIdle_ring (s : Source) : (makeIdle s).ring = s.ring := rfl
@[simp] theorem makeIdle_timer (s : Source) :
    (makeIdle s).timer = none := rfl
@[simp] theorem makeIdle_quiet (s : Source) :
    (makeIdle s).quiet = false := rfl
@[simp] theorem makeIdle_quietCount (s : Source) :
    (makeIdle s).quietCount = 0 := rfl
@[simp] theorem makeIdle_underrun (s : Source) : (makeIdle s).underrun = s.underrun := rfl
@[simp] theorem makeIdle_overrun (s : Source) : (makeIdle s).overrun = s.overrun := rfl
@[simp] theorem makeIdle_meter (s : Source) : (makeIdle s).meter = s.meter := rfl
@[simp] theorem makeIdle_changeFlag (s : Source) : (makeIdle s).changeFlag = s.changeFlag := rfl
@[simp] theorem makeIdle_changeEnable (s : Source) : (makeIdle s).changeEnable = s.changeEnable := rfl

/-! ### clearSourceCounters -/

@[simp] theorem clearSourceCounters_state (s : Source) : (clearSourceCounters s).state = s.state := rfl
@[simp] theorem clearSourceCounters_fifo (s : Source) : (clearSourceCounters s).fifo = s.fifo := rfl
@[simp] theorem clearSourceCounters_ring (s : Source) : (clearSourceCounters s).ring = s.ring := rfl
@[simp] theorem clearSourceCounters_timer (s : Source) : (clearSourceCounters s).timer = s.timer := rfl
@[simp] theorem clearSourceCounters_quiet (s : Source) : (clearSourceCounters s).quiet = s.quiet := rfl
@[simp] theorem clearSourceCounters_quietCount (s : Source) : (clearSourceCounters s).quietCount = s.quietCount := rfl
@[simp] theorem clearSourceCounters_underrun (s : Source) :
    (clearSourceCounters s).underrun = 0 := rfl
@[simp] theorem clearSourceCounters_overrun (s : Source) :
    (clearSourceCounters s).overrun = 0 := rfl
@[simp] theorem clearSourceCounters_meter (s : Source) : (clearSourceCounters s).meter = s.meter := rfl
@[simp] theorem clearSourceCounters_changeFlag (s : Source) : (clearSourceCounters s).changeFlag = s.changeFlag := rfl
@[simp] theorem clearSourceCounters_changeEnable (s : Source) : (clearSourceCounters s).changeEnable = s.changeEnable := rfl

/-! ### writeSample -/

@[simp] theorem writeSample_state (x : Sample) (s : Source) : (writeSample x s).state = s.state := rfl
@[simp] theorem writeSample_fifo (x : Sample) (s : Source) : (writeSample x s).fifo = s.fifo := rfl
@[simp] theorem writeSample_ring (x : Sample) (s : Source) :
    (writeSample x s).ring = writeRing x s.ring := rfl
@[simp] theorem writeSample_timer (x : Sample) (s : Source) : (writeSample x s).timer = s.timer := rfl
@[simp] theorem writeSample_quiet (x : Sample) (s : Source) : (writeSample x s).quiet = s.quiet := rfl
@[simp] theorem writeSample_quietCount (x : Sample) (s : Source) : (writeSample x s).quietCount = s.quietCount := rfl
@[simp] theorem writeSample_underrun (x : Sample) (s : Source) : (writeSample x s).underrun = s.underrun := rfl
@[simp] theorem writeSample_overrun (x : Sample) (s : Source) : (writeSample x s).overrun = s.overrun := rfl
@[simp] theorem writeSample_meter (x : Sample) (s : Source) :
    (writeSample x s).meter = meterTake s.meter x := rfl
@[simp] theorem writeSample_changeFlag (x : Sample) (s : Source) : (writeSample x s).changeFlag = s.changeFlag := rfl
@[simp] theorem writeSample_changeEnable (x : Sample) (s : Source) : (writeSample x s).changeEnable = s.changeEnable := rfl

/-! ### markEdge -/

@[simp] theorem markEdge_state (b : Bool) (s : Source) : (markEdge b s).state = s.state := rfl
@[simp] theorem markEdge_fifo (b : Bool) (s : Source) : (markEdge b s).fifo = s.fifo := rfl
@[simp] theorem markEdge_ring (b : Bool) (s : Source) : (markEdge b s).ring = s.ring := rfl
@[simp] theorem markEdge_timer (b : Bool) (s : Source) : (markEdge b s).timer = s.timer := rfl
@[simp] theorem markEdge_quiet (b : Bool) (s : Source) : (markEdge b s).quiet = s.quiet := rfl
@[simp] theorem markEdge_quietCount (b : Bool) (s : Source) : (markEdge b s).quietCount = s.quietCount := rfl
@[simp] theorem markEdge_underrun (b : Bool) (s : Source) : (markEdge b s).underrun = s.underrun := rfl
@[simp] theorem markEdge_overrun (b : Bool) (s : Source) : (markEdge b s).overrun = s.overrun := rfl
@[simp] theorem markEdge_meter (b : Bool) (s : Source) : (markEdge b s).meter = s.meter := rfl
@[simp] theorem markEdge_changeFlag (b : Bool) (s : Source) :
    (markEdge b s).changeFlag = (s.changeFlag || (b && s.changeEnable)) := rfl
@[simp] theorem markEdge_changeEnable (b : Bool) (s : Source) : (markEdge b s).changeEnable = s.changeEnable := rfl

@[simp] theorem setEnables_settings (m : SourceMonitor) (x : BitVec 192) : (setEnables m x).settings = m.settings := by simp only [setEnables]
@[simp] theorem clearChangeFlags_settings (m : SourceMonitor) (x : List Byte) : (clearChangeFlags m x).settings = m.settings := by simp only [clearChangeFlags]
@[simp] theorem idleDeskSources_settings (m : SourceMonitor) (x : Fin 4) : (idleDeskSources m x).settings = m.settings := by simp only [idleDeskSources]
@[simp] theorem idleLaneSources_settings (m : SourceMonitor) (x : Fin 8) : (idleLaneSources m x).settings = m.settings := by simp only [idleLaneSources]

/-! ### endFetch -/

@[simp] theorem endFetch_slot (l : Link) : (endFetch l).slot = l.slot := rfl
@[simp] theorem endFetch_fresh (l : Link) : (endFetch l).fresh = l.fresh := rfl
@[simp] theorem endFetch_overrun (l : Link) :
    (endFetch l).overrun = false := rfl
@[simp] theorem endFetch_short (l : Link) :
    (endFetch l).short = false := rfl
@[simp] theorem endFetch_csHeld (l : Link) : (endFetch l).csHeld = l.csHeld := rfl
@[simp] theorem endFetch_miso (l : Link) : (endFetch l).miso = l.miso := rfl

end Sys2Proof.Machine
end

