-- ==== Sys2Proof/Laws/Events.lean ====
section
/-!
SUPPORT. What the shared operations around a command can do: the pulse (`settle`), events, requests, transactions.
-/
namespace Sys2Proof.Machine

/-! ## The pulse count after an event -/

@[simp] theorem settle_rstLow (s t : State) : (settle s t).rstLow = t.rstLow := by
  unfold settle; split <;> rfl

@[simp] theorem settle_route (s t : State) : (settle s t).route = t.route := by
  unfold settle; split <;> rfl

@[simp] theorem settle_edit (s t : State) : (settle s t).edit = t.edit := by
  unfold settle; split <;> rfl

@[simp] theorem settle_monitor (s t : State) : (settle s t).monitor = t.monitor := by
  unfold settle; split <;> rfl

@[simp] theorem settle_windowTicked (s t : State) : (settle s t).windowTicked = t.windowTicked := by
  unfold settle; split <;> rfl

@[simp] theorem settle_lanes (s t : State) : (settle s t).lanes = t.lanes := by
  unfold settle; split <;> rfl

@[simp] theorem settle_desk (s t : State) : (settle s t).desk = t.desk := by
  unfold settle; split <;> rfl

@[simp] theorem settle_link (s t : State) : (settle s t).link = t.link := by
  unfold settle; split <;> rfl

@[simp] theorem settle_freeCount (s t : State) : (settle s t).freeCount = t.freeCount := by
  unfold settle; split <;> rfl

@[simp] theorem settle_pending (s t : State) : (settle s t).pending = t.pending := by
  unfold settle; split <;> rfl

@[simp] theorem settle_alert_masked (s t : State) : (settle s t).alert.masked = t.alert.masked := by
  unfold settle; split <;> rfl

@[simp] theorem settle_alert_inService (s t : State) : (settle s t).alert.inService = t.alert.inService := by
  unfold settle; split <;> rfl

@[simp] theorem settle_alert_mode (s t : State) : (settle s t).alert.mode = t.alert.mode := by
  unfold settle; split <;> rfl

@[simp] theorem settle_alert_pointer (s t : State) : (settle s t).alert.pointer = t.alert.pointer := by
  unfold settle; split <;> rfl

@[simp] theorem settle_alert_style (s t : State) : (settle s t).alert.style = t.alert.style := by
  unfold settle; split <;> rfl

@[simp] theorem settle_alert_width (s t : State) : (settle s t).alert.width = t.alert.width := by
  unfold settle; split <;> rfl

/-- The pulse count after an event (R159). -/
theorem settle_alert_pulse (s t : State) :
    (settle s t).alert.pulse =
      if s.alert.style = .pulse ∧ t.alert.style = .pulse ∧ alertWaiting s = false ∧ alertWaiting t = true then
        some t.alert.width
      else t.alert.pulse := by
  unfold settle; split <;> rfl

/-- Without the set going from empty to not empty, an event starts no pulse (R159). -/
theorem settle_of_not_started {s t : State} (h : alertWaiting s = true ∨ alertWaiting t = false) : settle s t = t := by
  unfold settle
  split
  · next hc => rcases h with h | h <;> simp [h] at hc
  · rfl

/-- In LEVEL style no event starts a pulse (R158). -/
theorem settle_of_level {s t : State} (h : s.alert.style = .level ∨ t.alert.style = .level) : settle s t = t := by
  unfold settle
  split
  · next hc => rcases h with h | h <;> simp [h] at hc
  · rfl

/-- An event that leaves the indication of the eligible set as it was starts no pulse. -/
theorem settle_of_same {s t : State} (h : alertWaiting t = alertWaiting s) : settle s t = t := by
  cases hs : alertWaiting s
  · exact settle_of_not_started (.inr (h.trans hs))
  · exact settle_of_not_started (.inl hs)

/-- The four requests depend on the owning blocks alone (R154). -/
theorem requests_congr {s t : State} (hm : t.monitor = s.monitor) (hr : t.route = s.route) (hl : t.lanes = s.lanes)
    (he : t.edit = s.edit) : requests t = requests s := by
  unfold requests
  rw [hm, hr, hl, he]

/-- The eligible set depends on the requests and on the Alert Controller alone (R157). -/
theorem alertWaiting_congr {s t : State} (hq : requests t = requests s) (ha : t.alert = s.alert) :
    alertWaiting t = alertWaiting s := by
  unfold alertWaiting eligibleNow
  rw [hq, ha]

/-- A response changes nothing of what the alert indication depends on. -/
@[simp] theorem alertWaiting_respond (t : State) (r : Response) : alertWaiting (respond t r) = alertWaiting t :=
  alertWaiting_congr (requests_congr (by simp) (by simp) (by simp) (by simp)) (by simp)

@[simp] theorem requests_respond (t : State) (r : Response) : requests (respond t r) = requests t :=
  requests_congr (by simp) (by simp) (by simp) (by simp)

/-- Placing a response starts no pulse of its own. -/
theorem settle_respond_self (s : State) (r : Response) : settle s (respond s r) = respond s r :=
  settle_of_same (by simp)

/-! ## Events -/

/-- While RESET_N is low nothing is taken (R175). -/
theorem takeEvent_low {s : State} (h : s.rstLow = true) (work : State → State) : takeEvent s work = .next s := by
  simp [takeEvent, h]

/-- An event taken: its work, with the eligible set judged anew (R157). -/
theorem takeEvent_taken {s : State} (h : s.rstLow = false) (work : State → State) :
    takeEvent s work = .next (settle s (work s)) := by
  simp [takeEvent, h]

/-- Everything an event can do. -/
theorem takeEvent_cases {s t : State} {work : State → State} (h : takeEvent s work = .next t) :
    (s.rstLow = true ∧ t = s) ∨ (s.rstLow = false ∧ t = settle s (work s)) := by
  cases hr : s.rstLow
  · rw [takeEvent_taken hr] at h
    exact .inr ⟨rfl, by cases h; rfl⟩
  · rw [takeEvent_low hr] at h
    exact .inl ⟨rfl, by cases h; rfl⟩

/-- An event with a sound operand is taken as an event. -/
theorem takeWellFormed_true (s : State) (work : State → State) : takeWellFormed true s work = takeEvent s work := rfl

/-- A refused term is refused by name (log 12). -/
theorem takeWellFormed_false (s : State) (work : State → State) :
    takeWellFormed false s work = .refused .illFormed := rfl

/-- Everything an event with an operand that is judged can do. -/
theorem takeWellFormed_cases {ok : Bool} {s t : State} {work : State → State} (h : takeWellFormed ok s work = .next t) :
    ok = true ∧ ((s.rstLow = true ∧ t = s) ∨ (s.rstLow = false ∧ t = settle s (work s))) := by
  cases ok
  · simp [takeWellFormed] at h
  · exact ⟨rfl, takeEvent_cases h⟩

/-! ## Requests -/

/-- A request that has been handed over needs no transaction of its own. -/
theorem handOver_handed {i : Instr} {s : State} (h : s.link.state = .processing i) : handOver i s = s := by
  simp [handOver, h]

/-- A request handed over is taken: its command acts, its response is made (R169). -/
theorem takeRequest_handed {i : Instr} {s : State} (h : HandedOver i s) (act : State → State × Response) :
    takeRequest i s act = .next (settle s (respond (act s).1 (act s).2)) := by
  unfold takeRequest
  rw [takeEvent_taken h.1]
  simp only [handOver_handed h.2]
  rw [if_pos h.2]

/-- A request that only reads changes nothing but the link's state, which holds its response. -/
theorem takeRead_handed {i : Instr} {s : State} (h : HandedOver i s) (answer : State → Response) :
    takeRead i s answer = .next (respond s (answer s)) := by
  unfold takeRead
  rw [takeRequest_handed h]
  exact congrArg _ (settle_respond_self s _)

/-- Everything the taking of a request can do. -/
theorem takeRequest_cases {i : Instr} {s t : State} {act : State → State × Response} (h : takeRequest i s act = .next t) :
    (s.rstLow = true ∧ t = s) ∨
    (s.rstLow = false ∧ (handOver i s).link.state ≠ .processing i ∧ t = settle s (handOver i s)) ∨
    (s.rstLow = false ∧ (handOver i s).link.state = .processing i ∧
      t = settle s (respond (act (handOver i s)).1 (act (handOver i s)).2)) := by
  unfold takeRequest at h
  rcases takeEvent_cases h with h | ⟨hr, rfl⟩
  · exact .inl h
  · by_cases hp : (handOver i s).link.state = .processing i
    · exact .inr (.inr ⟨hr, hp, by simp only [if_pos hp]⟩)
    · exact .inr (.inl ⟨hr, hp, by simp only [if_neg hp]⟩)

/-- The taking of a request always answers a next state. -/
theorem takeRequest_next (i : Instr) (s : State) (act : State → State × Response) :
    ∃ t, takeRequest i s act = .next t := by
  unfold takeRequest takeEvent
  split <;> exact ⟨_, rfl⟩

end Sys2Proof.Machine
end

