-- ==== Sys2Proof/Laws/Source.lean ====
section
/-!
SUPPORT. What the operations of the Source Monitor can do, and the ring's one form.
-/
namespace Sys2Proof.Machine

/-! ## Rings (R98, R83; log 14) -/

/-- A ring in its one form reads as the samples it was made from. -/
theorem readRing_trimRing (xs : List Sample) (d : Nat) : readRing (trimRing xs) d = readRing xs d := by
  induction xs generalizing d with
  | nil => rfl
  | cons x xs ih =>
    cases hx : trimRing xs with
    | nil =>
      have hz : ∀ k, readRing xs k = 0#24 := fun k => by rw [← ih k, hx]; rfl
      by_cases h0 : x = 0#24
      · simp only [trimRing, hx, if_pos h0]
        cases d with
        | zero => simp [readRing, h0]
        | succ d => exact (hz d).symm
      · simp only [trimRing, hx, if_neg h0]
        cases d with
        | zero => rfl
        | succ d => exact (hz d).symm
    | cons y ys =>
      simp only [trimRing, hx]
      cases d with
      | zero => rfl
      | succ d =>
        have := ih d
        rw [hx] at this
        simpa [readRing] using this

/-- A trimmed list does not end in a zero. -/
theorem trimRing_getLast? (xs : List Sample) : (trimRing xs).getLast? ≠ some 0#24 := by
  induction xs with
  | nil => simp [trimRing]
  | cons x xs ih =>
    cases hx : trimRing xs with
    | nil =>
      by_cases h0 : x = 0#24
      · simp [trimRing, hx, h0]
      · simp [trimRing, hx, h0]
    | cons y ys =>
      simp only [trimRing, hx]
      rw [hx] at ih
      simpa [List.getLast?_cons_cons] using ih

theorem trimRing_length_le (xs : List Sample) : (trimRing xs).length ≤ xs.length := by
  induction xs with
  | nil => simp [trimRing]
  | cons x xs ih =>
    cases hx : trimRing xs with
    | nil => simp only [trimRing, hx]; split <;> simp
    | cons y ys => rw [hx] at ih; simpa [trimRing, hx] using ih

/-- The form of a ring holds after every write (R98). -/
theorem writeRing_form (x : Sample) (ring : List Sample) : RingOk (writeRing x ring) :=
  ⟨(trimRing_length_le _).trans (by simp), trimRing_getLast? _⟩

/-- A write puts its sample at delay 0 and moves the older ones on by one (R98). -/
theorem readRing_writeRing (x : Sample) (ring : List Sample) :
    readRing (writeRing x ring) 0 = x ∧ ∀ d, d < 4095 → readRing (writeRing x ring) (d + 1) = readRing ring d := by
  simp only [writeRing, readRing_trimRing]
  constructor
  · simp [readRing, Config.ringDepth]
  · intro d hd
    simp only [readRing, List.getD_eq_getElem?_getD, Config.ringDepth]
    rw [List.getElem?_take_of_lt (by omega)]
    simp

/-! ## Arrivals (R96, R97) -/

/-- Everything an arrival can do to a FIFO: it joins its end, or it is discarded and counted (R96). -/
theorem joinFifo_cases (src : Source) (e : Arrival) :
    (src.fifo.length < Config.fifoDepth ∧ joinFifo src e = { src with fifo := src.fifo ++ [e] }) ∨
    (Config.fifoDepth ≤ src.fifo.length ∧ joinFifo src e = { src with overrun := satAdd src.overrun 1 }) := by
  unfold joinFifo
  by_cases h : src.fifo.length < Config.fifoDepth
  · exact .inl ⟨h, by simp [h]⟩
  · exact .inr ⟨by omega, by simp [h]⟩

/-- No arrival makes a FIFO hold more than 16 entries (R96). -/
theorem arrive_fifo_length {src : Source} (h : src.fifo.length ≤ Config.fifoDepth) (e : Arrival) :
    (arrive src e).fifo.length ≤ Config.fifoDepth := by
  have hj : (joinFifo src e).fifo.length ≤ Config.fifoDepth := by
    rcases joinFifo_cases src e with ⟨hl, he⟩ | ⟨-, he⟩ <;> rw [he]
    · simpa using hl
    · exact h
  unfold arrive
  split
  · split
    · exact hj
    · exact h
  all_goals exact hj

/-! ## The work of a tick (R99 to R102) -/

theorem sourceWork_running {st : MonitorSettings} {src : Source} (h : src.state = .running) :
    sourceWork st src = takeEntry st src := by
  simp [sourceWork, h]

/-- 8 entries bring a waiting source to RUNNING, and it takes the oldest (R99). -/
theorem sourceWork_primed {st : MonitorSettings} {src : Source} (h : isWaiting src = true) (hp : isPrimed src = true) :
    sourceWork st src = takeEntry st { leaveWaiting st src with state := .running } := by
  have : src.state ≠ .running := by intro hr; simp [isWaiting, hr] at h
  simp [sourceWork, this, h, hp]

/-- A close mark behind too few entries ends the feed (R99). -/
theorem sourceWork_closed {st : MonitorSettings} {src : Source} (h : isWaiting src = true) (hp : isPrimed src = false)
    (hc : holdsClose src = true) :
    sourceWork st src =
      ⟨writeSample 0#24
        { leaveWaiting st src with fifo := afterCloseMark src.fifo, state := stateAfterClose (afterCloseMark src.fifo) },
        true, false⟩ := by
  have : src.state ≠ .running := by intro hr; simp [isWaiting, hr] at h
  simp [sourceWork, this, h, hp, hc]

/-- A source that neither runs nor leaves its state does its state's own work (R99, R101). -/
theorem sourceWork_waits {st : MonitorSettings} {src : Source} (h : src.state ≠ .running)
    (hw : isWaiting src = true → isPrimed src = false ∧ holdsClose src = false) :
    sourceWork st src = waitWork st src := by
  unfold sourceWork
  rw [if_neg h]
  split
  · next hi =>
    obtain ⟨h1, h2⟩ := hw hi
    simp [h1, h2]
  · rfl

theorem takeEntry_sample {st : MonitorSettings} {src : Source} {x : Sample} {rest : List Arrival}
    (h : src.fifo = .sample x :: rest) :
    takeEntry st src = ⟨writeSample x { src with fifo := rest, state := .running }, false, false⟩ := by
  simp [takeEntry, h]

theorem takeEntry_closeMark {st : MonitorSettings} {src : Source} {rest : List Arrival} (h : src.fifo = .closeMark :: rest) :
    takeEntry st src =
      ⟨writeSample 0#24 { leaveRunning st src with fifo := rest, state := stateAfterClose rest }, true, false⟩ := by
  simp [takeEntry, h]

theorem takeEntry_empty {st : MonitorSettings} {src : Source} (h : src.fifo = []) :
    takeEntry st src =
      ⟨writeSample 0#24
        { leaveRunning st src with state := .starved, underrun := satAdd src.underrun 1, timer := loadTimer st },
        false, false⟩ := by
  simp [takeEntry, h]

/-- A source enters LOST only from STARVED, as its timer counts from 1 (R101). -/
theorem enteredLost_iff {st : MonitorSettings} {src : Source} :
    (sourceWork st src).enteredLost = true ↔
      src.state = .starved ∧ isPrimed src = false ∧ holdsClose src = false ∧ ∃ n, src.timer = some n ∧ n ≤ 1 := by
  have ht : ∀ src : Source, (takeEntry st src).enteredLost = false := fun src => by
    unfold takeEntry; split <;> rfl
  by_cases hr : src.state = .running
  · simp [sourceWork_running hr, ht, hr]
  · cases hp : isPrimed src <;> cases hc : holdsClose src <;> cases hw : isWaiting src <;>
      simp only [isWaiting] at hw <;> cases hs : src.state <;> simp_all [sourceWork, isWaiting, waitWork, starve] <;>
      (cases htm : src.timer <;> simp <;> split <;> simp_all)

theorem selectsLeave_eq (e : EdgeSelect) : selectsLeave e = (e != .enter) := by cases e <;> rfl

theorem selectsEnter_eq (e : EdgeSelect) : selectsEnter e = (e != .leave) := by cases e <;> rfl

theorem lostLeft_eq (st : MonitorSettings) (src : Source) :
    lostLeft st src = (decide (src.state = .lost) && (src.changeEnable && st.lostEdges != .enter)) := by
  unfold lostLeft
  cases src.state <;> rfl

/-- The entries behind the oldest close mark. -/
theorem afterCloseMark_append {before rest : List Arrival} (h : .closeMark ∉ before) :
    afterCloseMark (before ++ .closeMark :: rest) = rest := by
  induction before with
  | nil => rfl
  | cons a b ih => cases a <;> simp_all [afterCloseMark]

theorem isWaiting_iff (src : Source) : isWaiting src = true ↔ Waits src := by
  unfold isWaiting Waits
  cases src.state <;> simp

theorem isPrimed_iff (src : Source) : isPrimed src = true ↔ 8 ≤ src.fifo.length := decide_eq_true_iff

theorem holdsClose_iff (src : Source) : holdsClose src = true ↔ .closeMark ∈ src.fifo := by simp [holdsClose]

/-- A source that takes no entry and whose feed does not end does its state's own work (R98, R99, R101). -/
theorem sourceWork_rests {st : MonitorSettings} {src : Source} (ht : ¬ TakesHead src) (hf : ¬ FeedEnds src) :
    sourceWork st src = waitWork st src := by
  refine sourceWork_waits (fun h => ht (.inl h)) fun hw => ?_
  rw [isWaiting_iff] at hw
  have hp : ¬ 8 ≤ src.fifo.length := fun h => ht (.inr ⟨hw, h⟩)
  rw [← Bool.not_eq_true, ← Bool.not_eq_true, isPrimed_iff, holdsClose_iff]
  exact ⟨hp, fun hc => hf (.inr ⟨hw, by omega, hc⟩)⟩

/-- The work ends in one write to the ring, of 0 unless the source is then RUNNING (R98). -/
theorem sourceWork_writes (st : MonitorSettings) (src : Source) :
    ∃ x src', (sourceWork st src).source = writeSample x src' ∧ src'.ring = src.ring ∧ src'.meter = src.meter ∧
      (src'.state ≠ .running → x = 0#24) := by
  have hrun (s : Source) : (leaveRunning st s).ring = s.ring ∧ (leaveRunning st s).meter = s.meter := by
    unfold leaveRunning
    split <;> simp [markEdge]
  have hwait (s : Source) : (leaveWaiting st s).ring = s.ring ∧ (leaveWaiting st s).meter = s.meter := by
    unfold leaveWaiting
    split <;> simp [markEdge]
  have htake (s : Source) : ∃ x src', (takeEntry st s).source = writeSample x src' ∧ src'.ring = s.ring ∧
      src'.meter = s.meter ∧ (src'.state ≠ .running → x = 0#24) := by
    unfold takeEntry
    split
    · exact ⟨_, _, rfl, rfl, rfl, by simp⟩
    all_goals exact ⟨_, _, rfl, (hrun s).1, (hrun s).2, fun _ => rfl⟩
  have hrest (s : Source) : ∃ x src', (waitWork st s).source = writeSample x src' ∧ src'.ring = s.ring ∧
      src'.meter = s.meter ∧ (src'.state ≠ .running → x = 0#24) := by
    unfold waitWork starve
    split
    · split
      · exact ⟨_, _, rfl, rfl, rfl, fun _ => rfl⟩
      · split <;> exact ⟨_, _, rfl, rfl, rfl, fun _ => rfl⟩
    all_goals exact ⟨_, _, rfl, rfl, rfl, fun _ => rfl⟩
  unfold sourceWork
  split
  · exact htake _
  · split
    · split
      · obtain ⟨x, src', h1, h2, h3, h4⟩ := htake { leaveWaiting st src with state := .running }
        exact ⟨x, src', h1, h2.trans (hwait _).1, h3.trans (hwait _).2, h4⟩
      · split
        · exact ⟨_, _, rfl, (hwait _).1, (hwait _).2, fun _ => rfl⟩
        · exact hrest _
    · exact hrest _

/-- What a source that plays an entry becomes (R99, R100). -/
theorem sourceWork_plays {st : MonitorSettings} {src : Source} {x : Sample} {rest : List Arrival} (ht : TakesHead src)
    (hf : src.fifo = .sample x :: rest) :
    (sourceWork st src).source = writeSample x { src with
      state := .running, fifo := rest, timer := if src.state = .running then src.timer else none
      changeFlag := src.changeFlag || lostLeft st src } := by
  rcases ht with hr | ⟨hw, hl⟩
  · simp [sourceWork_running hr, takeEntry_sample hf, hr, lostLeft_eq]
  · rw [sourceWork_primed ((isWaiting_iff src).2 hw) ((isPrimed_iff src).2 hl)]
    rcases hw with h | h | h <;>
      simp [takeEntry, leaveWaiting, markEdge, hf, h, lostLeft_eq, selectsLeave_eq, Bool.and_comm]

/-- What a source whose feed ends becomes (R99, R100). -/
theorem sourceWork_ends {st : MonitorSettings} {src : Source} {before rest : List Arrival} (he : FeedEnds src)
    (hf : src.fifo = before ++ .closeMark :: rest) (hb : .closeMark ∉ before) :
    (sourceWork st src).source = writeSample 0#24 { src with
      state := if rest = [] then .idle else .priming
      fifo := rest, timer := if src.state = .running then src.timer else none
      quiet := if TakesHead src then false else src.quiet
      quietCount := if TakesHead src then 0 else src.quietCount
      changeFlag := src.changeFlag || lostLeft st src || (decide (TakesHead src) && quietLeft st src) } := by
  rcases he with ⟨ht, hh⟩ | ⟨hw, hl, hm⟩
  · obtain rfl : before = [] := by
      cases before with
      | nil => rfl
      | cons a b => simp_all
    rw [List.nil_append] at hf
    rw [if_pos ht, if_pos ht, decide_eq_true ht]
    rcases ht with hr | ⟨hw, hl⟩
    · cases hq : src.quiet <;>
        simp [sourceWork_running hr, takeEntry_closeMark hf, leaveRunning, stateAfterClose, markEdge, hr, hq, lostLeft_eq,
          quietLeft, selectsLeave_eq, Bool.and_comm]
    · rw [sourceWork_primed ((isWaiting_iff src).2 hw) ((isPrimed_iff src).2 hl)]
      rcases hw with h | h | h <;> cases hq : src.quiet <;>
        simp [takeEntry, leaveWaiting, leaveRunning, stateAfterClose, markEdge, hf, h, hq, lostLeft_eq, quietLeft,
          selectsLeave_eq, Bool.and_comm]
  · have hp : ¬ isPrimed src = true := fun h => by rw [isPrimed_iff] at h; omega
    have hr : src.state ≠ .running := by rcases hw with h | h | h <;> simp [h]
    have ht : ¬ TakesHead src := by
      rintro (h | ⟨-, h⟩)
      · exact hr h
      · omega
    have hcut : afterCloseMark src.fifo = rest := by rw [hf, afterCloseMark_append hb]
    rw [sourceWork_closed ((isWaiting_iff src).2 hw) (by simpa using hp) ((holdsClose_iff src).2 hm), hcut, if_neg ht,
      if_neg ht, decide_eq_false ht]
    rcases hw with h | h | h <;>
      simp [leaveWaiting, stateAfterClose, markEdge, h, lostLeft_eq, selectsLeave_eq, Bool.and_comm]

/-- Everything the work of a tick can do to a source (R98 to R102). -/
theorem sourceWork_worked (st : MonitorSettings) (src : Source) : Worked st src (sourceWork st src).source := by
  obtain ⟨x, src', h, hring, hmeter, hzero⟩ := sourceWork_writes st src
  constructor
  · intro d hd
    rw [h, ← hring]
    exact (readRing_writeRing x src'.ring).2 d hd
  · rw [h]
    simp only [writeSample, (readRing_writeRing x src'.ring).1, ← hmeter]
    rfl
  · rw [h]
    intro hs
    exact (readRing_writeRing x src'.ring).1.trans (hzero hs)
  · intro y rest ht hf
    rw [sourceWork_plays ht hf]
    exact ⟨(readRing_writeRing y _).1, rfl⟩
  · intro hs hf
    rw [sourceWork_running hs, takeEntry_empty hf]
    cases hq : src.quiet <;>
      simp [writeSample, leaveRunning, loadTimer, markEdge, satAdd, Config.ticksPerMs, hq, quietLeft, selectsLeave_eq,
        Bool.and_comm]
  · intro before rest he hf hb
    rw [sourceWork_ends he hf hb]
    rfl
  · intro ht he hs
    have hr : src.state ≠ .running := fun h => ht (.inl h)
    rw [sourceWork_rests ht he]
    unfold waitWork
    split <;> first | rfl | contradiction
  · intro ht he hs
    rw [sourceWork_rests ht he]
    refine ⟨fun hn => ?_, fun c hn hc => ?_, fun c hn hc => ?_⟩
    · simp [waitWork, starve, writeSample, satAdd, hs, hn]
    · simp [waitWork, starve, writeSample, satAdd, hs, hn, show ¬ c ≤ 1 by omega]
    · simp [waitWork, starve, writeSample, satAdd, markEdge, hs, hn, hc, selectsEnter_eq, Bool.and_comm]

end Sys2Proof.Machine
end

