-- ==== Sys2Proof/Laws/Lane.lean ====
section
/-!
SUPPORT. What reception, the slot arbiter and the output bundles can do.
-/
namespace Sys2Proof.Machine

/-! ## Packets -/

@[simp] theorem frameWords_length (f : Frame) : (frameWords f).length = 3 := rfl

theorem flatMap_frameWords_length (fs : List Frame) : (fs.flatMap frameWords).length = 3 * fs.length := by
  induction fs with
  | nil => rfl
  | cons f fs ih => simp only [List.flatMap_cons, List.length_append, ih, frameWords_length, List.length_cons]; omega

/-- An own packet holds four words and three a frame (R143, R144). -/
theorem ownPacket_length (k : PacketKind) (j : Fin 8) (seq : Byte) (n : Nat) (fs : List Frame) :
    (ownPacket k j seq n fs).length = 4 + 3 * fs.length := by
  simp only [ownPacket, List.length_append, List.length_cons, List.length_nil, flatMap_frameWords_length]
  omega

/-- The size by which a packet of frames is offered is its length (R143). -/
theorem framePacket_length (j : Fin 8) (seq : Byte) (fs : List Frame) :
    (framePacket j seq fs).length = framePacketWords fs := by
  unfold framePacket framePacketWords
  split <;> simp [ownPacket_length]

@[simp] theorem packetWords_nil : packetWords [] = 0 := rfl

@[simp] theorem packetWords_cons (p : List Word) (ps : List (List Word)) :
    packetWords (p :: ps) = p.length + packetWords ps := by
  simp [packetWords]

@[simp] theorem packetWords_append (ps qs : List (List Word)) :
    packetWords (ps ++ qs) = packetWords ps + packetWords qs := by
  simp [packetWords]

/-! ## The parser (R122, R123) -/

/-- The complete packets of a line take no more words than the line has. -/
theorem huntPackets_words (fuel : Nat) (ws : List Word) : packetWords (huntPackets fuel ws).1 ≤ ws.length := by
  induction fuel generalizing ws with
  | zero => simp [huntPackets]
  | succ fuel ih =>
    cases ws with
    | nil => simp [huntPackets]
    | cons m rest =>
      simp only [huntPackets]
      split
      · exact (ih rest).trans (by simp)
      · cases rest with
        | nil => simp
        | cons len body =>
          simp only
          split
          · simp
          · next hb =>
            have := ih (body.drop (len.toNat + 1))
            simp only [List.length_drop] at this
            simp only [packetWords_cons, List.length_cons, List.length_take]
            omega

/-- Any fuel that bounds the words gives the same packets. -/
theorem huntPackets_fuel {f g : Nat} {ws : List Word} (hf : ws.length ≤ f) (hg : ws.length ≤ g) :
    huntPackets f ws = huntPackets g ws := by
  induction f generalizing g ws with
  | zero =>
    obtain rfl : ws = [] := by simpa using hf
    cases g <;> rfl
  | succ f ih =>
    cases ws with
    | nil => cases g <;> rfl
    | cons m rest =>
      cases g with
      | zero => simp at hg
      | succ g =>
        simp only [List.length_cons, Nat.add_le_add_iff_right] at hf hg
        simp only [huntPackets, ih hf hg]
        cases rest with
        | nil => rfl
        | cons len body =>
          simp only [List.length_cons] at hf hg
          have tails : ∀ k, huntPackets f (body.drop k) = huntPackets g (body.drop k) := fun k =>
            ih (by simp; omega) (by simp; omega)
          simp only [tails]

/-- An own packet that passes is one of the kinds of R120, with its bundle and sequence count. -/
theorem classify_good {packet : List Word} {j : Fin 8} {seq : Byte} {c : Content} (h : classify packet = .good j seq c) :
    ∃ marker rest, packet = marker :: rest ∧ markerOwner marker = Config.ownerCode ∧
      packet.getLast? = some (checkValue packet.dropLast) ∧ markerBundle marker = j ∧
      contentOf (markerKind marker) (packet.dropLast.drop 2) = some (seq, c) := by
  unfold classify at h
  split at h
  · cases h
  · next marker rest =>
    split at h
    · cases h
    · next ho =>
      split at h
      · cases h
      · next hcheck =>
        split at h
        · cases h
        · next s' c' hco =>
          injection h with h1 h2 h3
          subst h1; subst h2; subst h3
          exact ⟨marker, rest, rfl, by simpa using ho, by simpa using hcheck, rfl, hco⟩

/-! ## The arbiter (R141 to R146) -/

/-- The n offered fits, and no larger one does (R143). -/
theorem offerSize_spec {fifo : List Frame} {free n : Nat} (h : offerSize fifo free = some n) :
    1 ≤ n ∧ n ≤ 4 ∧ n ≤ fifo.length ∧ framePacketWords (fifo.take n) ≤ free ∧
      ∀ m, n < m → m ≤ 4 → m ≤ fifo.length → free < framePacketWords (fifo.take m) := by
  unfold offerSize at h
  simp only [List.find?_cons, List.find?_nil] at h
  repeat' split at h
  all_goals cases h
  all_goals
    simp only [Bool.and_eq_true, Bool.and_eq_false_iff, decide_eq_true_eq, decide_eq_false_iff_not] at *
    refine ⟨by omega, by omega, by omega, by omega, fun m h1 h2 h3 => ?_⟩
    obtain rfl | rfl | rfl : m = 4 ∨ m = 3 ∨ m = 2 := by omega
    all_goals omega

/-- No packet can be offered only when no n fits (R143). -/
theorem offerSize_none {fifo : List Frame} {free : Nat} (h : offerSize fifo free = none) :
    ∀ n, 1 ≤ n → n ≤ 4 → n ≤ fifo.length → free < framePacketWords (fifo.take n) := by
  intro n h1 h2 h3
  have := List.find?_eq_none.mp h n (by simp; omega)
  simp only [Bool.and_eq_true, decide_eq_true_eq, not_and] at this
  have := this h3
  omega

/-- Every bundle stands in the grant order once (R142). -/
theorem grantOrder_once (p : Fin 8) : (grantOrder p).Nodup ∧ ∀ j : Fin 8, j ∈ grantOrder p := by
  revert p; decide

/-- Everything the visit of a bundle can do: nothing, when the arbitration has ended or the bundle requests nothing; end the
arbitration, when no packet can be offered; grant a CLOSE; grant frames (R141 to R146). -/
theorem visitBundle_cases (budget : Nat) (w : Arbiter) (j : Fin 8) :
    ((w.ended = true ∨ budget ≤ w.granted ∨ w.bundles[j].fifo = [] ∧ w.bundles[j].activity ≠ .closing) ∧
      visitBundle budget w j = w) ∨
    (w.ended = false ∧ w.granted < budget ∧
      (w.bundles[j].fifo = [] ∧ w.bundles[j].activity = .closing ∧ w.free < 4 ∨
        w.bundles[j].fifo ≠ [] ∧ offerSize w.bundles[j].fifo w.free = none) ∧
      visitBundle budget w j = { w with ended := true }) ∨
    (w.ended = false ∧ w.granted < budget ∧ w.bundles[j].fifo = [] ∧ w.bundles[j].activity = .closing ∧ 4 ≤ w.free ∧
      visitBundle budget w j = grantClose w j) ∨
    (w.ended = false ∧ w.granted < budget ∧
      ∃ n, offerSize w.bundles[j].fifo w.free = some n ∧ visitBundle budget w j = grantFrames w j n) := by
  unfold visitBundle
  split
  · next hb => exact .inl ⟨by simp at hb; rcases hb with h | h <;> simp [h], rfl⟩
  · next hb =>
    simp only [Bool.or_eq_true, decide_eq_true_eq, not_or, Bool.not_eq_true, Nat.not_le] at hb
    split
    · next hc =>
      simp only [requestsClose, Bool.and_eq_true, List.isEmpty_iff, beq_iff_eq] at hc
      split
      · next hf => exact .inr (.inr (.inl ⟨hb.1, hb.2, hc.1, hc.2, hf, rfl⟩))
      · next hf => exact .inr (.inl ⟨hb.1, hb.2, .inl ⟨hc.1, hc.2, by omega⟩, rfl⟩)
    · next hc =>
      simp only [requestsClose, Bool.and_eq_true, List.isEmpty_iff, beq_iff_eq, not_and] at hc
      split
      · next he => exact .inl ⟨.inr (.inr ⟨by simpa using he, hc (by simpa using he)⟩), rfl⟩
      · next he =>
        split
        · next n hn => exact .inr (.inr (.inr ⟨hb.1, hb.2, n, hn, rfl⟩))
        · next hn => exact .inr (.inl ⟨hb.1, hb.2, .inr ⟨by simpa using he, hn⟩, rfl⟩)

@[simp] theorem grantPacket_packets (w : Arbiter) (j : Fin 8) (p : List Word) (b : OutBundle) :
    (grantPacket w j p b).packets = w.packets ++ [p] := rfl

@[simp] theorem grantPacket_free (w : Arbiter) (j : Fin 8) (p : List Word) (b : OutBundle) :
    (grantPacket w j p b).free = w.free - p.length := rfl

@[simp] theorem grantPacket_granted (w : Arbiter) (j : Fin 8) (p : List Word) (b : OutBundle) :
    (grantPacket w j p b).granted = w.granted + 1 := rfl

@[simp] theorem grantPacket_last (w : Arbiter) (j : Fin 8) (p : List Word) (b : OutBundle) :
    (grantPacket w j p b).last = some j := rfl

@[simp] theorem grantPacket_ended (w : Arbiter) (j : Fin 8) (p : List Word) (b : OutBundle) :
    (grantPacket w j p b).ended = w.ended := rfl

@[simp] theorem grantPacket_bundles (w : Arbiter) (j : Fin 8) (p : List Word) (b : OutBundle) :
    (grantPacket w j p b).bundles = bankSet w.bundles j { b with seq := b.seq + 1#8 } := rfl

/-- The turns after a bundle's are turns of the order. -/
theorem turnsAfter_sublist (order : List (Fin 8)) (last : Option (Fin 8)) : (turnsAfter order last).Sublist order := by
  cases last with
  | none => exact .refl _
  | some j => exact (List.drop_sublist 1 _).trans (List.dropWhile_sublist _)

/-- The bundle of a turn taken is not among the turns after it: a bundle is visited once in a line (R142). -/
theorem turnsAfter_not_mem {order : List (Fin 8)} (h : order.Nodup) (j : Fin 8) : j ∉ turnsAfter order (some j) := by
  induction order with
  | nil => simp [turnsAfter]
  | cons k rest ih =>
    by_cases hk : k = j
    · subst hk
      simpa [turnsAfter] using (List.nodup_cons.mp h).1
    · simpa [turnsAfter, List.dropWhile_cons, hk] using ih (List.nodup_cons.mp h).2

/-- When a line can grant a bundle its CLOSE (R138, R142, R143, R146). -/
theorem takesClose_iff (lane : Lane) (l : OutLine) (j : Fin 8) :
    takesClose lane l j = true ↔
      lane.outBundles[j].activity = .closing ∧ lane.outBundles[j].fifo = [] ∧ j ∈ l.turns ∧ l.granted < lane.settings.budget ∧
        packetWords l.packets + 4 ≤ 64 := by
  simp [takesClose, requestsClose, Config.blankingWords]
  tauto

/-- Everything the turn of a drained bundle alone can do (R138; log 16). -/
theorem closeTurn_cases (lane : Lane) (j : Fin 8) :
    ((∀ l, lane.outLine = some l → takesClose lane l j = false) ∧ closeTurn lane j = lane) ∨
    ∃ l, lane.outLine = some l ∧ takesClose lane l j = true ∧
      closeTurn lane j = { lane with
        outBundles := bankSet lane.outBundles j
          { lane.outBundles[j] with activity := .inactive, seq := lane.outBundles[j].seq + 1#8 }
        pointer    := nextPointer lane (some j)
        outLine    := some ⟨l.number, l.packets ++ [ownPacket .close j lane.outBundles[j].seq 0 []], l.granted + 1,
          turnsAfter l.turns (some j)⟩ } := by
  unfold closeTurn
  split
  · next h => exact .inl ⟨by simp [h], rfl⟩
  · next l h =>
    split
    · next ht => exact .inr ⟨l, h, ht, rfl⟩
    · next ht => exact .inl ⟨by intro k hk; rw [h] at hk; cases hk; simpa using ht, rfl⟩

/-! ## Output bundles at a tick (R135, R136) -/

/-- Everything the embed push can do (R136). -/
theorem pushFrame_cases (b : OutBundle) (f : Frame) :
    (b.fifo.length < Config.fifoDepth ∧ pushFrame b f = { b with fifo := b.fifo ++ [f] }) ∨
    (Config.fifoDepth ≤ b.fifo.length ∧ pushFrame b f = { b with overflow := satAdd b.overflow 1 }) := by
  unfold pushFrame
  by_cases h : b.fifo.length < Config.fifoDepth
  · exact .inl ⟨h, by simp [h]⟩
  · exact .inr ⟨by omega, by simp [h]⟩

/-- The activity table of R135. -/
theorem judgeActivity_table (a : Activity) :
    judgeActivity a true = .active ∧ judgeActivity .inactive false = .inactive ∧ judgeActivity .active false = .closing ∧
      judgeActivity .closing false = .closing := ⟨rfl, rfl, rfl, rfl⟩

/-! ## Settings and presence (R131, R148, R117) -/

theorem bringSettings_none {l : Lane} (h : l.pendingSettings = none) : bringSettings l = l := by
  simp [bringSettings, h]

theorem bringSettings_some {l : Lane} {st : LaneSettings} (h : l.pendingSettings = some st) :
    bringSettings l =
      { l with
        settings := st
        pendingSettings := none
        pointer := if st.mode = l.settings.mode ∧ st.lowest = l.settings.lowest then l.pointer else st.lowest } := by
  simp [bringSettings, h]

theorem presenceTick_absent {l : Lane} (h : l.presence = .absent) : presenceTick l = l := by
  simp [presenceTick, h]

theorem presenceTick_present {l : Lane} {c : Nat} (h : l.presence = .present c) :
    presenceTick l =
      if Config.absenceTicks ≤ c + 1 then { l with presence := .absent, changeFlag := true }
      else { l with presence := .present (c + 1) } := by
  simp [presenceTick, h]

end Sys2Proof.Machine
end

