-- ==== Sys2Proof/Laws/Link.lean ====
section
/-!
SUPPORT. Bytes of requests, and what the transactions of the Control Link can do (R165 to R172).
-/
namespace Sys2Proof

@[simp] theorem wordOf_hi_lo (w : Word) : wordOf (hiByte w) (loByte w) = w := by
  unfold wordOf hiByte loByte
  ext i hi
  simp only [BitVec.getElem_append, BitVec.getElem_extractLsb']
  split
  · simp [BitVec.getLsbD_eq_getElem, hi]
  · next h =>
    have : 8 + (i - 8) = i := by omega
    simp [this, BitVec.getLsbD_eq_getElem, hi]

@[simp] theorem hiByte_wordOf (a b : Byte) : hiByte (wordOf a b) = a := by
  unfold wordOf hiByte
  ext i hi
  rw [BitVec.getElem_extractLsb', BitVec.getLsbD_append, if_neg (by omega), show 8 + i - 8 = i by omega,
    BitVec.getLsbD_eq_getElem hi]

@[simp] theorem loByte_wordOf (a b : Byte) : loByte (wordOf a b) = b := by
  unfold wordOf loByte
  ext i hi
  rw [BitVec.getElem_extractLsb', BitVec.getLsbD_append, if_pos (by omega), Nat.zero_add, BitVec.getLsbD_eq_getElem hi]

@[simp] theorem wordBytes_length (w : Word) : (wordBytes w).length = 2 := rfl

@[simp] theorem ackBytes_length (a : NoticeAck) : (ackBytes a).length = 3 := rfl

@[simp] theorem legBytes_length (l : RawLeg) : (legBytes l).length = 7 := rfl

@[simp] theorem enableBytes_length (e : BitVec 192) : (enableBytes e).length = 24 := by simp [enableBytes]

/-- A flag byte is read as the flag it was written from (R179). -/
@[simp] theorem flagOf_flagByte (f : Bool) : flagOf (flagByte f) = f := by cases f <;> rfl

/-- Entries of ACK_NOTICES are read back as they were written. -/
theorem decodeAcks_flatMap (es : List NoticeAck) : decodeAcks es.length (es.flatMap ackBytes) = some es := by
  induction es with
  | nil => rfl
  | cons a es ih =>
    simp [ackBytes, wordBytes, decodeAcks, ih]

/-- An edit's fields are read back as they were written (R182). -/
theorem decodeEditFields_editBytes {f : EditFields} (h : wellFormedEdit f = true) :
    ∃ kind rest, editBytes f = kind :: rest ∧ decodeEditFields kind rest = some f := by
  cases f with
  | create dest leg p b t c => exact ⟨_, _, rfl, by simp [decodeEditFields, legBytes, wordBytes]⟩
  | modify h' m leg => exact ⟨_, _, rfl, by simp [decodeEditFields, legBytes, wordBytes]⟩
  | retire h' c => exact ⟨_, _, rfl, by simp [decodeEditFields, wordBytes]⟩
  | revert h' => exact ⟨_, _, rfl, by simp [decodeEditFields, wordBytes]⟩
  | unknown k =>
    refine ⟨k, [], rfl, ?_⟩
    unfold decodeEditFields
    simp only [wellFormedEdit, Bool.or_eq_true, beq_iff_eq, decide_eq_true_eq] at h
    split <;> first | omega | rfl

end Sys2Proof

namespace Sys2Proof.Machine

/-! ## The request slot -/

/-- The bytes of a whole request are stored as they are (R167, R178). -/
theorem storeRequest_requestBytes (code : Byte) {p : List Byte} (h : p.length ≤ Config.linkPayload) :
    storeRequest (requestBytes code p) = requestBytes code p := by
  have hm : p.length % 256 = p.length := Nat.mod_eq_of_lt (by unfold Config.linkPayload at h; omega)
  simp [storeRequest, requestBytes, BitVec.toNat_ofNat, hm, h]

/-- A whole request is not short (R167). -/
theorem isShort_requestBytes (code : Byte) {p : List Byte} (h : p.length ≤ Config.linkPayload) :
    isShort (requestBytes code p) = false := by
  have hm : p.length % 256 = p.length := Nat.mod_eq_of_lt (by unfold Config.linkPayload at h; omega)
  simp [isShort, requestBytes, BitVec.toNat_ofNat, hm]

/-! ## Transactions -/

theorem transaction_taken {s : State} (h : s.link.csHeld = false) (n : Nat) (work : State → State) :
    transaction n s work = work s := by
  simp [transaction, h]

theorem transaction_held {s : State} (h : s.link.csHeld = true) (n : Nat) (work : State → State) :
    transaction n s work = untakenTransaction n s := by
  simp [transaction, h]

/-- A REQUEST on a link that is not IDLE is discarded with OVERRUN (R167). -/
theorem judgeRequest_busy {l : Link} (h : l.state ≠ .idle) : judgeRequest l = { l with overrun := true, slot := [] } := by
  unfold judgeRequest
  cases hs : l.state <;> simp_all

/-- A REQUEST on an IDLE link: SHORT, or accepted (R167, R168). -/
theorem judgeRequest_idle {l : Link} (h : l.state = .idle) :
    judgeRequest l =
      if isShort l.slot then { l with short := true, slot := [] } else { l with state := accept l.slot, slot := [] } := by
  unfold judgeRequest
  rw [h]

/-- A transaction touches the link, and for one that is not taken the counter of free values; nothing else. -/
theorem requestTransaction_frame (bytes : List Byte) (s : State) :
    ∃ l c, requestTransaction bytes s = { s with link := l, freeCount := c } := by
  unfold requestTransaction transaction
  split
  · exact ⟨_, _, rfl⟩
  · exact ⟨_, s.freeCount, rfl⟩

theorem fetchTransaction_frame (clocked : Nat) (s : State) :
    ∃ l c, fetchTransaction clocked s = { s with link := l, freeCount := c } := by
  unfold fetchTransaction transaction
  split
  · exact ⟨_, _, rfl⟩
  · exact ⟨_, s.freeCount, rfl⟩

theorem voidTransaction_frame (bytes : List Byte) (s : State) :
    ∃ l c, voidTransaction bytes s = { s with link := l, freeCount := c } := by
  unfold voidTransaction transaction
  split
  · exact ⟨_, _, rfl⟩
  · exact ⟨_, s.freeCount, rfl⟩

/-- The link and the counter of free values are no input of the alert indication. -/
@[simp] theorem alertWaiting_link (s : State) (l : Link) (c : Nat) :
    alertWaiting { s with link := l, freeCount := c } = alertWaiting s := rfl

/-- No transaction starts a pulse. -/
theorem settle_requestTransaction (bytes : List Byte) (s : State) :
    settle s (requestTransaction bytes s) = requestTransaction bytes s := by
  obtain ⟨l, c, h⟩ := requestTransaction_frame bytes s
  exact settle_of_same (by rw [h]; exact alertWaiting_link s l c)

theorem settle_fetchTransaction (clocked : Nat) (s : State) :
    settle s (fetchTransaction clocked s) = fetchTransaction clocked s := by
  obtain ⟨l, c, h⟩ := fetchTransaction_frame clocked s
  exact settle_of_same (by rw [h]; exact alertWaiting_link s l c)

theorem settle_voidTransaction (bytes : List Byte) (s : State) :
    settle s (voidTransaction bytes s) = voidTransaction bytes s := by
  obtain ⟨l, c, h⟩ := voidTransaction_frame bytes s
  exact settle_of_same (by rw [h]; exact alertWaiting_link s l c)

/-- The block that takes a request sees what was there before the transaction that handed it over, but for the link. -/
theorem handOver_frame (i : Instr) (s : State) : ∃ l c, handOver i s = { s with link := l, freeCount := c } := by
  unfold handOver
  split
  · exact ⟨s.link, s.freeCount, rfl⟩
  · split
    · exact requestTransaction_frame _ s
    · exact ⟨s.link, s.freeCount, rfl⟩

end Sys2Proof.Machine
end

