-- ==== Sys2Proof/Laws/Route.lean ====
section
/-!
SUPPORT. What the operations of the Route Table and of the Edit Stage can do: one lemma a case, cited in place of unfolding.
-/
namespace Sys2Proof.Machine

/-! ## Handles (R21 to R23) -/

/-- A valid handle names the slot of its low byte, not FREE, at its present generation (R22). -/
theorem checkHandle_valid {rt : RouteTable} {h : Handle} {i : Fin 160} {r : Record} :
    checkHandle rt h = .valid i r ↔
      (loByte h).toNat = i.val ∧ rt.slots[i].record = some r ∧ rt.slots[i].gen = hiByte h := by
  unfold checkHandle
  cases ht : toIndex 160 (loByte h).toNat with
  | none =>
    simp only [toIndex_eq_none] at ht
    constructor
    · intro h'; cases h'
    · intro h'; omega
  | some j =>
    have hj := toIndex_eq_some.1 ht
    cases hr : rt.slots[j].record with
    | none =>
      constructor
      · intro h'; simp only [hr] at h'; cases h'
      · rintro ⟨hi, hr', -⟩
        have : i = j := Fin.ext (hi.symm.trans hj.symm)
        subst this; rw [hr] at hr'; cases hr'
    | some r' =>
      simp only [hr]
      by_cases hg : rt.slots[j].gen = hiByte h
      · rw [if_pos hg]
        constructor
        · intro h'; injection h' with h1 h2; subst h1; subst h2
          exact ⟨hj.symm, hr, hg⟩
        · rintro ⟨hi, hr', -⟩
          have : i = j := Fin.ext (hi.symm.trans hj.symm)
          subst this; rw [hr] at hr'; cases hr'; rfl
      · rw [if_neg hg]
        constructor
        · intro h'; cases h'
        · rintro ⟨hi, -, hg'⟩
          have : i = j := Fin.ext (hi.symm.trans hj.symm)
          subst this; exact absurd hg' hg

/-- A handle whose slot part is 160 or more is RANGE, whatever its generation part (R22). -/
theorem checkHandle_range {rt : RouteTable} {h : Handle} (hh : 160 ≤ (loByte h).toNat) : checkHandle rt h = .range := by
  unfold checkHandle
  rw [toIndex_eq_none.2 hh]

/-- The parts of a handle (R21). -/
@[simp] theorem hiByte_makeHandle (g : Byte) (i : Fin 160) : hiByte (makeHandle g i) = g := by simp [makeHandle]

@[simp] theorem loByte_makeHandle (g : Byte) (i : Fin 160) : (loByte (makeHandle g i)).toNat = i.val := by
  simp [makeHandle]
  omega

/-- The handle of a slot that is not FREE, made from its generation, is valid (R21, R22). -/
theorem checkHandle_makeHandle {rt : RouteTable} {i : Fin 160} {r : Record} (h : rt.slots[i].record = some r) :
    checkHandle rt (makeHandle rt.slots[i].gen i) = .valid i r :=
  checkHandle_valid.2 ⟨by simp, h, by simp⟩

/-- No generation becomes 0 (R23). -/
theorem nextGen_ne_zero (g : Byte) : nextGen g ≠ 0#8 := by revert g; decide

/-! ## Slots and records -/

/-- The lowest-numbered FREE slot (R24). -/
theorem lowestFree_spec {rt : RouteTable} {i : Fin 160} (h : lowestFree rt = some i) :
    rt.slots[i].record = none ∧ ∀ j : Fin 160, j < i → rt.slots[j].record.isSome = true := by
  unfold lowestFree bankIndices at h
  rw [List.find?_eq_some_iff_getElem] at h
  obtain ⟨hp, k, hk, hki, hlt⟩ := h
  simp only [List.getElem_finRange] at hki
  refine ⟨by simpa using hp, fun j hj => ?_⟩
  have hjk : j.val < k := by subst hki; simpa [Fin.lt_def] using hj
  have := hlt j.val hjk
  simp only [List.getElem_finRange] at this
  simpa [Option.isSome_iff_ne_none] using this

/-- No slot is FREE (R24). -/
theorem lowestFree_none {rt : RouteTable} : lowestFree rt = none ↔ ∀ i : Fin 160, rt.slots[i].record.isSome = true := by
  unfold lowestFree
  simp [Option.isSome_iff_ne_none]

@[simp] theorem putRecord_some (rt : RouteTable) (i : Fin 160) (d : Fin 192) (r : Record) :
    putRecord rt i d (some r) = setRecord rt i r := rfl

@[simp] theorem putRecord_none (rt : RouteTable) (i : Fin 160) (d : Fin 192) :
    putRecord rt i d none = freeRecord rt i d := rfl

/-! ## Legs and ramps (R64 to R69) -/

/-- The length of a ramp: 0 for code 0, else 32 to 2048 (R64). -/
theorem rampLength_bounds (c : Fin 8) : (c.val = 0 ∧ rampLength c = 0) ∨ (c.val ≠ 0 ∧ 32 ≤ rampLength c ∧ rampLength c ≤ 2048) := by
  revert c; decide

/-- A leg with code 0 and no retire mark replaces the current leg (R65). -/
theorem bringInLive_cut {r : Record} {leg : Leg} (hc : leg.code.val = 0) (hm : leg.retire = false) :
    bringInLive r leg = some { r with current := leg, phase := .live } := by
  simp [bringInLive, hc, hm]

/-- A retire leg with code 0 frees the record (R65, R26). -/
theorem bringInLive_free {r : Record} {leg : Leg} (hc : leg.code.val = 0) (hm : leg.retire = true) :
    bringInLive r leg = none := by
  simp [bringInLive, hc, hm]

/-- A leg with a code of 1 to 7 starts a ramp at position 0 (R65). -/
theorem bringInLive_ramp {r : Record} {leg : Leg} (hc : leg.code.val ≠ 0) :
    bringInLive r leg =
      some { r with
        current := leg
        phase := if leg.retire then .retiring ⟨r.current, rampLength leg.code, 0⟩
                 else .ramping ⟨r.current, rampLength leg.code, 0⟩ none } := by
  simp [bringInLive, hc]

theorem bringIn_live {r : Record} {leg : Leg} (h : r.phase = .live) : bringIn r leg = bringInLive r leg := by
  simp [bringIn, h]

/-- A leg change on a RAMPING record becomes the next leg (R66). -/
theorem bringIn_ramping {r : Record} {leg : Leg} {ramp : Ramp} {next : Option Leg} (h : r.phase = .ramping ramp next) :
    bringIn r leg = some { r with phase := .ramping ramp (some leg) } := by
  simp [bringIn, h]

/-- A RETIRING record takes no leg change (R66). -/
theorem bringIn_retiring {r : Record} {leg : Leg} {ramp : Ramp} (h : r.phase = .retiring ramp) : bringIn r leg = some r := by
  simp [bringIn, h]

theorem endRamp_alone {r : Record} {ramp : Ramp} (h : r.phase = .ramping ramp none) :
    endRamp r = some { r with phase := .live } := by
  simp [endRamp, h]

theorem endRamp_next {r : Record} {ramp : Ramp} {leg : Leg} (h : r.phase = .ramping ramp (some leg)) :
    endRamp r = bringInLive { r with phase := .live } leg := by
  simp [endRamp, h]

theorem endRamp_retiring {r : Record} {ramp : Ramp} (h : r.phase = .retiring ramp) : endRamp r = none := by
  simp [endRamp, h]

/-- Before its last position a ramp moves by one and the legs stay (R67). -/
theorem advanceRecord_ramping {r : Record} {ramp : Ramp} {next : Option Leg} (h : r.phase = .ramping ramp next) :
    advanceRecord r =
      if rampFinishes ramp then endRamp r else some { r with phase := .ramping (rampStep ramp) next } := by
  simp [advanceRecord, h]

theorem advanceRecord_retiring {r : Record} {ramp : Ramp} (h : r.phase = .retiring ramp) :
    advanceRecord r = if rampFinishes ramp then none else some { r with phase := .retiring (rampStep ramp) } := by
  simp [advanceRecord, h, endRamp]

theorem advanceRecord_live {r : Record} (h : r.phase = .live) : advanceRecord r = some r := by
  simp [advanceRecord, h]

/-- Bringing in a leg keeps all of a record but its legs and state (R65). -/
theorem bringInLive_keeps {r r' : Record} {leg : Leg} (h : bringInLive r leg = some r') :
    r'.dest = r.dest ∧ r'.primary = r.primary ∧ r'.backup = r.backup ∧ r'.onBackup = r.onBackup ∧ r'.clip = r.clip ∧
      r'.notices = r.notices ∧ r'.current = leg := by
  unfold bringInLive at h
  split at h
  · split at h
    · cases h
    · cases h; exact ⟨rfl, rfl, rfl, rfl, rfl, rfl, rfl⟩
  · cases h; exact ⟨rfl, rfl, rfl, rfl, rfl, rfl, rfl⟩

/-- A leg change keeps all of a record but its legs and state (R65, R66). -/
theorem bringIn_keeps {r r' : Record} {leg : Leg} (h : bringIn r leg = some r') :
    r'.dest = r.dest ∧ r'.primary = r.primary ∧ r'.backup = r.backup ∧ r'.onBackup = r.onBackup ∧ r'.clip = r.clip ∧
      r'.notices = r.notices := by
  unfold bringIn at h
  split at h
  · obtain ⟨h1, h2, h3, h4, h5, h6, -⟩ := bringInLive_keeps h
    exact ⟨h1, h2, h3, h4, h5, h6⟩
  · cases h; exact ⟨rfl, rfl, rfl, rfl, rfl, rfl⟩
  · cases h; exact ⟨rfl, rfl, rfl, rfl, rfl, rfl⟩

/-- Step 5 keeps all of a record but its legs and state (R67, R68). -/
theorem advanceRecord_keeps {r r' : Record} (h : advanceRecord r = some r') :
    r'.dest = r.dest ∧ r'.primary = r.primary ∧ r'.backup = r.backup ∧ r'.onBackup = r.onBackup ∧ r'.clip = r.clip ∧
      r'.notices = r.notices := by
  have hend : ∀ x, endRamp r = some x →
      x.dest = r.dest ∧ x.primary = r.primary ∧ x.backup = r.backup ∧ x.onBackup = r.onBackup ∧ x.clip = r.clip ∧
        x.notices = r.notices := by
    intro x hx
    unfold endRamp at hx
    split at hx
    · cases hx; exact ⟨rfl, rfl, rfl, rfl, rfl, rfl⟩
    · cases hx; exact ⟨rfl, rfl, rfl, rfl, rfl, rfl⟩
    · obtain ⟨h1, h2, h3, h4, h5, h6, -⟩ := bringInLive_keeps hx
      exact ⟨h1, h2, h3, h4, h5, h6⟩
    · cases hx
  unfold advanceRecord at h
  split at h
  · cases h; exact ⟨rfl, rfl, rfl, rfl, rfl, rfl⟩
  · split at h
    · exact hend _ h
    · cases h; exact ⟨rfl, rfl, rfl, rfl, rfl, rfl⟩
  · split at h
    · exact hend _ h
    · cases h; exact ⟨rfl, rfl, rfl, rfl, rfl, rfl⟩

/-! ## Edits and batches (R49 to R56) -/

/-- An edit that fails changes nothing (R49, R54). -/
theorem applyEdit_failure {rt : RouteTable} {e : Edit} (h : isFailure (applyEdit rt e).outcome = true) :
    (applyEdit rt e).table = rt := by
  cases e with
  | create d leg b =>
    simp only [applyEdit, applyCreate] at h ⊢
    split
    · rfl
    · split
      · rfl
      · split
        · rfl
        · simp_all [isFailure]
  | modify hd p =>
    simp only [applyEdit, applyModify] at h ⊢
    split <;> try rfl
    split
    · rfl
    · split
      · rfl
      · next r _ _ _ => cases hp : r.phase <;> simp_all [isFailure, changeOutcome]
  | retire hd c =>
    simp only [applyEdit, applyRetire] at h ⊢
    split <;> try rfl
    split
    · rfl
    · split
      · rfl
      · next r _ _ _ => cases hp : r.phase <;> simp_all [isFailure, changeOutcome]
  | revert hd =>
    simp only [applyEdit, applyRevert] at h ⊢
    split <;> try rfl
    split
    · rfl
    · split
      · rfl
      · split
        · next r _ _ _ _ => cases hp : r.phase <;> simp_all [isFailure, changeOutcome]
        · rfl

/-- One result entry an edit (R56). -/
@[simp] theorem applyEdits_length (rt : RouteTable) (edits : List ListedEdit) :
    (applyEdits rt edits).2.length = edits.length := by
  induction edits generalizing rt with
  | nil => rfl
  | cons e es ih => simp [applyEdits, ih]

@[simp] theorem applyBatch_length (rt : RouteTable) (edits : List ListedEdit) (m : BatchMode) (a : Byte) :
    (applyBatch rt edits m a).2.entries.length = edits.length := by
  unfold applyBatch
  cases m
  · simp
  · simp only
    split <;> simp

/-- The table after a batch is that of its edits, or the one before it (R54, R55). -/
theorem applyBatch_table (rt : RouteTable) (edits : List ListedEdit) (m : BatchMode) (a : Byte) :
    (applyBatch rt edits m a).1 = (applyEdits rt edits).1 ∨ (applyBatch rt edits m a).1 = rt := by
  unfold applyBatch
  cases m
  · exact .inl rfl
  · simp only
    split
    · exact .inr rfl
    · exact .inl rfl

/-- A slot of the arming queue at step 2: a due one is applied and becomes DONE, any other is left alone (R49). -/
theorem applySlot_due {w : RouteTable × EditStage} {i : Fin 4} {edits : List ListedEdit} {m : BatchMode} {t : Timing}
    {a : Byte} (h : w.2.slots[i] = .armed edits m t a) (hd : t.due = true) :
    applySlot w i =
      ((applyBatch w.1 edits m a).1,
        { w.2 with
          slots := bankSet w.2.slots i (.done (applyBatch w.1 edits m a).2)
          queue := w.2.queue.filter (· ≠ i) }) := by
  simp [applySlot, h, hd]

theorem applySlot_not_due {w : RouteTable × EditStage} {i : Fin 4} (h : isDue w.2.slots[i] = false) : applySlot w i = w := by
  unfold applySlot
  split
  · next edits m t a hs =>
    rw [hs] at h
    simp only [isDue] at h
    simp [h]
  all_goals rfl

/-! ## Failover (R72 to R78) -/

/-- Everything step 3 can do to a record: nothing; mark a lost backup; take a usable backup; mark an unusable one. -/
theorem failoverRecord_cases (sources : Vector Source 192) (taken : Taken) (r : Record) :
    failoverRecord sources taken r = r ∨
    ∃ b, r.backup = some b ∧ isRetiring r = false ∧
      ((r.onBackup = true ∧ taken.lost[b.source] = true ∧
          failoverRecord sources taken r = { r with notices := { r.notices with backupLost := true } }) ∨
        (r.onBackup = false ∧ matchesEntry taken r b = true ∧ isUsable sources b.source = true ∧
          failoverRecord sources taken r = takeBackup r b) ∨
        (r.onBackup = false ∧ matchesEntry taken r b = true ∧ isUsable sources b.source = false ∧
          failoverRecord sources taken r = { r with notices := { r.notices with backupUnusable := true } })) := by
  unfold failoverRecord
  repeat' split
  all_goals simp_all

end Sys2Proof.Machine
end

