-- ==== Sys2Proof/Laws/Pages.lean ====
section
/-!
SUPPORT. Paging: what one page holds (R36, R38, R112).
-/
namespace Sys2Proof.Machine

/-- A page holds at most the items there is room for. -/
theorem collectPage_length {n : Nat} {α : Type} (pick : Fin n → Option α) (is : List (Fin n)) {room : Nat} (h : 1 ≤ room) :
    (collectPage pick is room).1.length ≤ room := by
  induction is generalizing room with
  | nil => simp [collectPage]
  | cons i is ih =>
    simp only [collectPage]
    split
    · exact ih h
    · split
      · simpa using h
      · next hr =>
        have := ih (room := room - 1) (by omega)
        simp only [List.length_cons]
        omega

/-- An index without an item is passed over. -/
theorem collectPage_none {n : Nat} {α : Type} {pick : Fin n → Option α} {i : Fin n} (h : pick i = none) (is : List (Fin n))
    (room : Nat) : collectPage pick (i :: is) room = collectPage pick is room := by
  simp [collectPage, h]

/-- The last item there is room for ends the page; examination goes on after it (R36). -/
theorem collectPage_last {n : Nat} {α : Type} {pick : Fin n → Option α} {i : Fin n} {a : α} (h : pick i = some a)
    (is : List (Fin n)) : collectPage pick (i :: is) 1 = ([a], is.head?) := by
  simp [collectPage, h]

theorem collectPage_some {n : Nat} {α : Type} {pick : Fin n → Option α} {i : Fin n} {a : α} (h : pick i = some a)
    (is : List (Fin n)) (room : Nat) :
    collectPage pick (i :: is) (room + 2) =
      (a :: (collectPage pick is (room + 1)).1, (collectPage pick is (room + 1)).2) := by
  simp [collectPage, h]

end Sys2Proof.Machine
end

