-- ==== Sys2Proof/Laws/PerInstr.lean ====
section
/-!
SUPPORT. The family RequestShape: what a well-formed command is sent as, one lemma a constructor. A request names one of the command
codes of R179 and its payload fits the link (R166); an event from outside or a part of one is sent as no request.
-/
namespace Sys2Proof.Laws.RequestShape

/-- A well-formed command that is a request has one of the command codes and at most 250 bytes of payload (R166, R179). -/
def Statement (i : Instr) : Prop :=
  ∀ c p, wellFormed i = true → encodeRequest i = some (c, p) →
    c.toNat ∈ commandCodes ∧ p.length ≤ Config.linkPayload

/-- The proof of a constructor whose code and payload are written out. -/
theorem of_encode {i : Instr} {c : Byte} {p : List Byte} (he : encodeRequest i = some (c, p)) (hc : c.toNat ∈ commandCodes)
    (hp : p.length ≤ Config.linkPayload) : Statement i := by
  intro c' p' _ h
  rw [he] at h
  cases h
  exact ⟨hc, hp⟩

/-- The proof of a constructor that is no request. -/
theorem of_none {i : Instr} (he : encodeRequest i = none) : Statement i := by
  intro c p _ h
  rw [he] at h
  cases h

/-- A count with a layout allows at most 32 entries (R179). -/
theorem length_of_wellFormedCount {α : Type} {count : Byte} {es : List α} (h : wellFormedCount count es = true) :
    es.length ≤ 32 := by
  unfold wellFormedCount at h
  split at h
  · next hc =>
    have := beq_iff_eq.1 h
    have := hc.2
    unfold Config.pageLimit at this
    omega
  · simp_all

theorem flatMap_ackBytes_length (es : List NoticeAck) : (es.flatMap ackBytes).length = 3 * es.length := by
  induction es with
  | nil => rfl
  | cons a es ih => simp only [List.flatMap_cons, List.length_append, ih, ackBytes_length, List.length_cons]; omega

theorem editBytes_length_le (f : EditFields) : (editBytes f).length ≤ 13 := by
  cases f <;> simp [editBytes, legBytes, wordBytes]

theorem sampleTick (desk : List DeskArrival) : Statement (.sampleTick desk) := of_none rfl

theorem refFramePulse : Statement (.refFramePulse) := of_none rfl

theorem inputLineEvent (lane : Fin 8) (line : Nat) (words : List Word) : Statement (.inputLineEvent lane line words) := of_none rfl

theorem deviceReset (recognised : Bool) : Statement (.deviceReset recognised) := of_none rfl

theorem resetRelease (csLow : Bool) : Statement (.resetRelease csLow) := of_none rfl

theorem request (bytes : List Byte) : Statement (.request bytes) := of_none rfl

theorem fetch (clocked : Nat) : Statement (.fetch clocked) := of_none rfl

theorem voidTransaction (bytes : List Byte) : Statement (.voidTransaction bytes) := of_none rfl

theorem status : Statement (.status) := of_encode rfl (by decide) (by simp [Config.linkPayload])

theorem readRoute (handle : Handle) : Statement (.readRoute handle) := of_encode rfl (by decide) (by simp [wordBytes, Config.linkPayload])

theorem findDest (dest : Byte) : Statement (.findDest dest) := of_encode rfl (by decide) (by simp [Config.linkPayload])

theorem listSource (source : Byte) (start : Byte) : Statement (.listSource source start) := of_encode rfl (by decide) (by simp [Config.linkPayload])

theorem clearClip (handle : Handle) : Statement (.clearClip handle) := of_encode rfl (by decide) (by simp [wordBytes, Config.linkPayload])

theorem readNotices (start : Byte) : Statement (.readNotices start) := of_encode rfl (by decide) (by simp [Config.linkPayload])

theorem ackNotices (count : Byte) (entries : List NoticeAck) : Statement (.ackNotices count entries) := by
  intro c p hw he
  simp only [encodeRequest, Option.some.injEq, Prod.mk.injEq] at he
  obtain ⟨rfl, rfl⟩ := he
  have := length_of_wellFormedCount hw
  refine ⟨by decide, ?_⟩
  simp only [List.length_cons, flatMap_ackBytes_length, Config.linkPayload]
  omega

theorem setGuards (mask : Word) : Statement (.setGuards mask) := of_encode rfl (by decide) (by simp [wordBytes, Config.linkPayload])

theorem clearAll (force : Bool) : Statement (.clearAll force) := of_encode rfl (by decide) (by simp [Config.linkPayload])

theorem readMeters (side : Byte) (first : Byte) (count : Byte) : Statement (.readMeters side first count) := of_encode rfl (by decide) (by simp [Config.linkPayload])

theorem openBatch : Statement (.openBatch) := of_encode rfl (by decide) (by simp [Config.linkPayload])

theorem addEdit (slot : Byte) (fields : EditFields) : Statement (.addEdit slot fields) := by
  intro c p hw he
  simp only [encodeRequest, Option.some.injEq, Prod.mk.injEq] at he
  obtain ⟨rfl, rfl⟩ := he
  have := editBytes_length_le fields
  refine ⟨by decide, ?_⟩
  simp only [List.length_cons, Config.linkPayload]
  omega

theorem armBatch (slot : Byte) (timing : Byte) (frames : Byte) (mode : Byte) : Statement (.armBatch slot timing frames mode) := of_encode rfl (by decide) (by simp [Config.linkPayload])

theorem readResult (slot : Byte) : Statement (.readResult slot) := of_encode rfl (by decide) (by simp [Config.linkPayload])

theorem releaseBatch (slot : Byte) : Statement (.releaseBatch slot) := of_encode rfl (by decide) (by simp [Config.linkPayload])

theorem cancelBatch (slot : Byte) : Statement (.cancelBatch slot) := of_encode rfl (by decide) (by simp [Config.linkPayload])

theorem readSource (source : Byte) (clear : Bool) : Statement (.readSource source clear) := of_encode rfl (by decide) (by simp [Config.linkPayload])

theorem setMonitor (lossTime : Byte) (q : Byte) (f : Byte) (lostEdges : Byte) (quietEdges : Byte) : Statement (.setMonitor lossTime q f lostEdges quietEdges) := of_encode rfl (by decide) (by simp [Config.linkPayload])

theorem setChangeEnables (enables : BitVec 192) : Statement (.setChangeEnables enables) := by
  exact of_encode rfl (by decide) (by simp [Config.linkPayload])

theorem readSourceChanges (start : Byte) : Statement (.readSourceChanges start) := of_encode rfl (by decide) (by simp [Config.linkPayload])

theorem ackSources (count : Byte) (sources : List Byte) : Statement (.ackSources count sources) := by
  intro c p hw he
  simp only [encodeRequest, Option.some.injEq, Prod.mk.injEq] at he
  obtain ⟨rfl, rfl⟩ := he
  have := length_of_wellFormedCount hw
  refine ⟨by decide, ?_⟩
  simp only [List.length_cons, Config.linkPayload]
  omega

theorem setDesk (direction : Byte) (port : Byte) (enable : Bool) : Statement (.setDesk direction port enable) := of_encode rfl (by decide) (by simp [Config.linkPayload])

theorem readLane (lane : Byte) (clear : Bool) : Statement (.readLane lane clear) := of_encode rfl (by decide) (by simp [Config.linkPayload])

theorem setLane (lane : Byte) (switchLine : Word) (keepMask : Byte) (budget : Byte) (mode : Byte) (lowest : Byte) : Statement (.setLane lane switchLine keepMask budget mode lowest) := of_encode rfl (by decide) (by simp [wordBytes, Config.linkPayload])

theorem restartLane (lane : Byte) : Statement (.restartLane lane) := of_encode rfl (by decide) (by simp [Config.linkPayload])

theorem ackLanes (mask : Byte) : Statement (.ackLanes mask) := of_encode rfl (by decide) (by simp [Config.linkPayload])

theorem pollAlert : Statement (.pollAlert) := of_encode rfl (by decide) (by simp [Config.linkPayload])

theorem ackAlert (cls : Byte) : Statement (.ackAlert cls) := of_encode rfl (by decide) (by simp [Config.linkPayload])

theorem setAlert (masks : Byte) (mode : Byte) (lowest : Byte) (style : Byte) (width : Byte) : Statement (.setAlert masks mode lowest style width) := of_encode rfl (by decide) (by simp [Config.linkPayload])

theorem clearAllExecute : Statement (.clearAllExecute) := of_none rfl

theorem batchApply : Statement (.batchApply) := of_none rfl

theorem failoverTrigger (source : Fin 192) (kind : TriggerKind) : Statement (.failoverTrigger source kind) := of_none rfl

theorem rampEnd (slot : Fin 160) : Statement (.rampEnd slot) := of_none rfl

theorem retireRampEnd (slot : Fin 160) : Statement (.retireRampEnd slot) := of_none rfl

theorem sourceRunning (source : Fin 192) : Statement (.sourceRunning source) := of_none rfl

theorem closeMarkTaken (source : Fin 192) : Statement (.closeMarkTaken source) := of_none rfl

theorem lossTimerExpiry (source : Fin 192) : Statement (.lossTimerExpiry source) := of_none rfl

theorem presenceTimeout (lane : Fin 8) : Statement (.presenceTimeout lane) := of_none rfl

theorem pulseEnd : Statement (.pulseEnd) := of_none rfl

theorem quietEntered (source : Fin 192) : Statement (.quietEntered source) := of_none rfl

theorem batchDue (slot : Fin 4) : Statement (.batchDue slot) := of_none rfl

theorem setLaneInForce (lane : Fin 8) : Statement (.setLaneInForce lane) := of_none rfl

theorem closePacketGrant (lane : Fin 8) (bundle : Fin 8) : Statement (.closePacketGrant lane bundle) := of_none rfl

theorem deskFrameInProgressCompleted (frames : List (List Sample)) : Statement (.deskFrameInProgressCompleted frames) := of_none rfl

end Sys2Proof.Laws.RequestShape
end

