-- ==== Sys2Proof/Tests/Slice0.lean ====
section
/-!
SUPPORT. The model's own tests: WellFormed, the decoding of requests, worked figures of the spec, and a witness for the hypotheses of each
statement.
-/
namespace Sys2Proof.Tests

open Sys2Proof.Machine

/-! ## WellFormed: for each check a term it refuses -/

theorem test_wellFormed_desk_ports : wellFormed (.sampleTick []) = false := by decide

theorem test_wellFormed_desk_frame :
    wellFormed (.sampleTick (List.replicate 4 ⟨List.replicate 15 0#24, true⟩)) = false := by decide

theorem test_wellFormed_line : wellFormed (.inputLineEvent 0 2048 []) = false := by decide

theorem test_wellFormed_void_request : wellFormed (.voidTransaction [0x52#8]) = false := by decide

theorem test_wellFormed_void_fetch : wellFormed (.voidTransaction [0x46#8]) = false := by decide

theorem test_wellFormed_ackNotices : wellFormed (.ackNotices 2#8 [⟨256#16, 1#8⟩]) = false := by decide

theorem test_wellFormed_ackSources : wellFormed (.ackSources 33#8 [1#8]) = false := by decide

theorem test_wellFormed_addEdit : wellFormed (.addEdit 0#8 (.unknown 4#8)) = false := by decide

theorem test_wellFormed_desk_completed :
    wellFormed (.deskFrameInProgressCompleted [List.replicate 16 0#24]) = false := by decide

/-! ## Requests, byte by byte from the layouts of R179 and R182 -/

theorem test_decode_readRoute : decodeRequest 0x10#8 2#8 [0x01#8, 0x05#8] = .command (.readRoute 0x0105#16) := by decide

theorem test_decode_create :
    decodeRequest 0x21#8 14#8
        [2#8, 1#8, 173#8, 37#8, 0x40#8, 0x00#8, 1#8, 0x0F#8, 0x00#8, 3#8, 1#8, 128#8, 3#8, 2#8] =
      .command (.addEdit 2#8 (.create 173#8 ⟨37#8, 0x4000#16, 1#8, 3840#16, 3#8⟩ 1#8 128#8 3#8 2#8)) := by decide

theorem test_decode_setLane :
    decodeRequest 0x41#8 7#8 [7#8, 0x02#8, 0x32#8, 0xFF#8, 8#8, 1#8, 7#8] =
      .command (.setLane 7#8 562#16 0xFF#8 8#8 1#8 7#8) := by decide

theorem test_decode_badCommand : decodeRequest 0x02#8 0#8 [] = .badCommand := by decide

theorem test_decode_badLength : decodeRequest 0x10#8 1#8 [0x01#8] = .badLength := by decide

theorem test_decode_over250 : decodeRequest 0x01#8 251#8 [] = .badLength := by decide

/-! ## Worked figures of the spec -/

/-- Chapter 5: −0.5 rounds to 0 and 0.5 to 1. -/
theorem test_round_halves : roundedQuotient (-1) 16384 0 = 0 ∧ roundedQuotient 1 16384 0 = 1 := by decide

/-- R91: the ends of the level codes. -/
theorem test_levelCode_ends : levelCode 0 = 23 ∧ levelCode 1 = 22 ∧ levelCode 4194303 = 1 ∧ levelCode 4194304 = 0 := by decide

/-- R5: the magnitude of −8388608. -/
theorem test_magnitude_most_negative : magnitude 0x800000#24 = 8388607 := by decide

/-- R21: the smallest and the largest handle. -/
theorem test_handle_ends : makeHandle 1#8 0 = 256#16 ∧ makeHandle 255#8 159 = 65439#16 := by decide

/-- R142: the two grant orders the rule writes out. -/
theorem test_grantOrder : grantOrder 7 = [0, 1, 2, 3, 4, 5, 6, 7] ∧ grantOrder 3 = [4, 5, 6, 7, 0, 1, 2, 3] := by decide

/-- R156: the two orders the rule writes out. -/
theorem test_priorityOrder :
    priorityOrder .batch = [.source, .route, .lane, .batch] ∧ priorityOrder .route = [.lane, .batch, .source, .route] := by
  decide

/-- R177: marker of a SAMPLE packet of bundle 5, of a SILENT one of bundle 1, of a CLOSE of bundle 4. -/
theorem test_markers : ownMarker .sample 5 = 0xB70D#16 ∧ ownMarker .silent 1 = 0xB711#16 ∧ ownMarker .close 4 = 0xB71C#16 := by
  decide

/-- R1: source 173 is DI2, slot 13. -/
theorem test_deskPort : deskPortOf 173 = some 2 ∧ (173 - 128) % 16 = 13 := by decide

/-- R64: the lengths of ramp codes 0, 1 and 7. -/
theorem test_rampLengths : rampLength 0 = 0 ∧ rampLength 1 = 32 ∧ rampLength 7 = 2048 := by decide

/-! ## States for the witnesses -/

/-- A leg on source 3 with ramp code 2. -/
def leg3 : Leg := ⟨.track 3, 0x4000#16, 1, 10, 2, false⟩

/-- A retire leg with ramp code 1. -/
def legOut : Leg := ⟨.silence, 0x4000#16, 1, 10, 1, true⟩

/-- A LIVE record on source 3, backup 4 on both triggers, clip and FAILOVER_TAKEN set. -/
def live (d : Fin 192) : Record := ⟨d, leg3, .live, .track 3, some ⟨4, true, true, 2⟩, false, true, ⟨true, false, false⟩⟩

/-- A RAMPING record at its last position with a retire leg queued. -/
def fading (d : Fin 192) : Record := ⟨d, leg3, .ramping ⟨leg3, 32, 31⟩ (some legOut), .track 3, none, false, false, ⟨false, false, false⟩⟩

/-- A RETIRING record at its last position. -/
def leaving (d : Fin 192) : Record := ⟨d, legOut, .retiring ⟨leg3, 32, 31⟩, .track 3, none, false, false, ⟨false, false, false⟩⟩

/-- A LIVE record on its backup, source 4. -/
def onBackup (d : Fin 192) : Record :=
  ⟨d, { leg3 with source := .track 4 }, .live, .track 3, some ⟨4, true, true, 2⟩, true, false, ⟨false, false, false⟩⟩

/-- Slots 0 to 3 hold one record of each kind, on destinations 5 to 8; port 1 (destinations 16 to 31) is guarded; slot 4 on 16. -/
def busyRoute : RouteTable :=
  { resetRoute with
    slots := ((((resetRoute.slots.set 0 ⟨1#8, some (live 5)⟩).set 1 ⟨2#8, some (fading 6)⟩).set 2 ⟨255#8, some (leaving 7)⟩).set 3
      ⟨1#8, some (onBackup 8)⟩).set 4 ⟨1#8, some (live 16)⟩
    destMap := ((((resetRoute.destMap.set 5 (some 0)).set 6 (some 1)).set 7 (some 2)).set 8 (some 3)).set 16 (some 4)
    guards := 2#12
    clearAll := some false
    pendingLost := resetRoute.pendingLost.set 3 true
    pendingQuiet := resetRoute.pendingQuiet.set 3 true }

/-- A RETIRE of the record in slot 0, as an edit list holds it. -/
def retire0 : ListedEdit := ⟨.retire 256#16 1, 5⟩

/-- A result of one edit. -/
def oneResult : BatchResult := ⟨.each, 0#8, .complete, [⟨.create, 5, .applied, 256#16⟩]⟩

/-- Slot 0 DONE, slot 1 ARMED and due, slot 2 OPEN with one edit, slot 3 FREE. -/
def busyEdit : EditStage where
  slots := #v[.done oneResult, .armed [retire0] .each ⟨.ref, 0, true⟩ 0#8, .opened [retire0], .free]
  queue := [1]
  nextArming := 1#8

/-- Source 1 RUNNING with a close mark next; 2 RUNNING and empty; 3 STARVED at the last count; 4 RUNNING and usable; 5 PRIMING with 8
entries; 6 PRIMING with a close mark behind 2 samples. -/
def busySources : Vector Source 192 :=
  (((((resetSource |> Vector.replicate 192).set 1 { resetSource with state := .running, fifo := [.closeMark] }).set 2
    { resetSource with state := .running, meter := ⟨1, 0, 23⟩, quietCount := 49 }).set 3
    { resetSource with state := .starved, timer := some 1, changeFlag := true, changeEnable := true }).set 4
    { resetSource with state := .running }).set 5 { resetSource with state := .priming, fifo := List.replicate 8 (.sample 7#24) }
    |>.set 6 { resetSource with state := .lost, fifo := [.sample 1#24, .sample 1#24, .closeMark] }

/-- Lane 0 PRESENT at count 239 with a pending SET_LANE, an ACTIVE bundle 0 with a frame, a CLOSING drained bundle 1, and a line handed
out; lane 1 PRESENT. -/
def busyLanes : Vector Lane 8 :=
  ((Vector.replicate 8 resetLane).set 0
    { resetLane with
      presence := .present 239
      pendingSettings := some ⟨7, 0#8, 1, .fixed, 3⟩
      outBundles := (resetLane.outBundles.set 0 ⟨.active, [⟨1#24, 2#24⟩], 9#8, 0⟩).set 1 ⟨.closing, [], 4#8, 0⟩
      outLine := some ⟨7, [], 0, [0, 1, 2, 3, 4, 5, 6, 7]⟩ }).set 1 { resetLane with presence := .present 3, changeFlag := true }

/-- A busy part. -/
def busy : State :=
  { State.reset with
    route := busyRoute, edit := busyEdit, monitor := ⟨busySources, resetSettings⟩, windowTicked := true, lanes := busyLanes
    desk := { resetDesk with clock := true, framing := true, ins := resetDesk.ins.set 1 ⟨true, .shifting⟩ }
    alert := { resetAlert with masked := ⟨false, false, false, false⟩ } }

/-- The busy part with a request handed over. -/
def asked (i : Instr) : State := { busy with link := { resetLink with state := .processing i } }

theorem test_asked (i : Instr) : HandedOver i (asked i) := ⟨rfl, rfl⟩

/-- The part after reset with a link state other than IDLE. -/
def linked (l : LinkState) : State := { State.reset with link := { resetLink with state := l, overrun := true } }

/-- A frame of each desk input port. -/
def someDesk : List DeskArrival := List.replicate 4 ⟨List.replicate 16 5#24, true⟩

/-! ## Witnesses: the hypotheses of the statements can be met, each clause at a boundary -/

theorem test_witness_StepTakesTheFrontCommand :
    ({ State.reset with pending := [.refFramePulse] } : State).pending = .refFramePulse :: [] := rfl

theorem test_witness_ExecLeavesTheQueueAlone : ∃ t, exec .refFramePulse busy = .next t := ⟨_, rfl⟩

theorem test_witness_NothingIsTakenDuringReset :
    (resetState busy).rstLow = true ∧ wellFormed (.sampleTick someDesk) = true ∧ (∀ b, Instr.sampleTick someDesk ≠ .deviceReset b) ∧
      (∀ b, Instr.sampleTick someDesk ≠ .resetRelease b) ∧ ResetHeld (resetState busy) :=
  ⟨rfl, by decide, by intro b; exact Instr.noConfusion, by intro b; exact Instr.noConfusion, fun _ => rfl⟩

/-- A transaction that was low at the release of RESET_N holds MISO driven until it ends. -/
theorem test_witness_NothingIsTakenDuringReset_miso :
    (∃ t, exec (.fetch 3) (releaseReset true busy) = .next t) ∧ misoDrivenNow (releaseReset true busy) = true ∧
      misoDrivenNow (resetState busy) = false := ⟨⟨_, rfl⟩, rfl, rfl⟩

theorem test_witness_ShortResetAndRelease : (resetState busy).rstLow = true ∧ busy.rstLow = false := ⟨rfl, rfl⟩

theorem test_witness_DecodeReadsBackEveryRequest :
    wellFormed (.ackSources 32#8 (List.replicate 32 191#8)) = true ∧
      encodeRequest (.ackSources 32#8 (List.replicate 32 191#8)) = some (0x34#8, 32#8 :: List.replicate 32 191#8) := by decide

theorem test_witness_RequestIsJudgedAtTheRise :
    (busy.rstLow = false ∧ busy.link.csHeld = false ∧ (asked .status).link.state ≠ .idle) ∧
      (LinkFree busy ∧ [0x10#8, 2#8, 1#8].length = 3 ∧ (2#8 : Byte).toNat ≤ 250 ∧ [1#8].length < (2#8 : Byte).toNat) ∧
      250 < (251#8 : Byte).toNat ∧ (2#8 : Byte).toNat ≤ [1#8, 5#8].length := by
  refine ⟨⟨rfl, rfl, by decide⟩, ⟨⟨rfl, rfl, rfl⟩, rfl, ?_, ?_⟩, ?_, ?_⟩ <;> decide

theorem test_witness_RequestIsJudgedAtTheRise_codes :
    (0x02#8 : Byte).toNat ∉ [0x01, 0x10, 0x11, 0x12, 0x13, 0x14, 0x15, 0x16, 0x17, 0x18, 0x20, 0x21, 0x22, 0x23, 0x24, 0x25, 0x30, 0x31,
        0x32, 0x33, 0x34, 0x35, 0x40, 0x41, 0x42, 0x43, 0x50, 0x51, 0x52] ∧
      encodeRequest .status = some (0x01#8, []) ∧ 250 < (251#8 : Byte).toNat := by decide

theorem test_witness_RequestIsJudgedAtTheRise_length :
    encodeRequest .status = some (0x01#8, []) ∧
      (∀ j code' p', encodeRequest j = some (code', p') → code' = 0x01#8 → p'.length = ([] : List Byte).length) ∧
      [1#8].length ≠ ([] : List Byte).length := by
  refine ⟨rfl, ?_, by decide⟩
  intro j code' p' h hc
  subst hc
  cases j <;> simp_all [encodeRequest]

/-- RETIRE calls for 3 bytes after its kind; kind 5 and the counts 0 and 33 have no layout; counts 1 and 32 have. -/
theorem test_witness_RequestIsJudgedAtTheRise_layouts :
    [0#8, (1#8 : Byte)].length ≠ 3 ∧ [(0#8 : Byte)].length < 2 ∧ (5#8 : Byte) ≠ 1#8 ∧ (5#8 : Byte) ≠ 2#8 ∧ (5#8 : Byte) ≠ 3#8 ∧
      (5#8 : Byte) ≠ 4#8 ∧ (250#8 : Byte).toNat ≤ 250 ∧ 1 ≤ (1#8 : Byte).toNat ∧ (32#8 : Byte).toNat ≤ 32 ∧
      [(0#8 : Byte)].length ≠ 3 * (1#8 : Byte).toNat ∧ [(0#8 : Byte)].length ≠ (32#8 : Byte).toNat ∧ (0#8 : Byte).toNat = 0 ∧
      32 < (33#8 : Byte).toNat := by decide

theorem test_witness_FetchSendsAFrame :
    (linked (.ready ⟨.ok, [7#8]⟩)).rstLow = false ∧ (linked (.ready ⟨.ok, [7#8]⟩)).link.csHeld = false ∧
      (linked (.ready ⟨.ok, [7#8]⟩)).link.state = .ready ⟨.ok, [7#8]⟩ ∧ 3 + [7#8].length ≤ 4 ∧ 3 < 3 + [7#8].length ∧
      (∀ r, busy.link.state ≠ .ready r) :=
  ⟨rfl, rfl, rfl, by decide, by decide, by intro r; exact LinkState.noConfusion⟩

theorem test_witness_VoidAndHeldTransactionsChangeNothing :
    (0x00#8 : Byte) ≠ 0x52#8 ∧ (0x00#8 : Byte) ≠ 0x46#8 ∧ busy.rstLow = false ∧ busy.link.csHeld = false ∧
      (releaseReset true busy).rstLow = false ∧ (releaseReset true busy).link.csHeld = true ∧
      wellFormed (.voidTransaction [0x00#8]) = true := by
  refine ⟨by decide, by decide, rfl, rfl, rfl, rfl, by decide⟩

/-- The part after reset is sound, with a command waiting and any link state whose content is. -/
theorem test_inv_of {l : LinkState} {a : AlertController} (h : LinkOk { resetLink with state := l, overrun := true })
    (ha : AlertOk a) (q : List Instr) : Inv { linked l with pending := q, alert := a } := by
  refine ⟨⟨?_, ?_, ?_, ?_⟩, ⟨?_, ?_, ?_, ?_⟩, ⟨?_, ?_, ?_⟩, ⟨?_, ?_⟩, ?_, ha, h, ?_⟩ <;>
    simp [linked, State.reset, resetRoute, resetEdit, resetSettings, resetDesk, SlotOk, EntryOk, NamedOk, resetMeter,
      levelCode, BatchSlotOk, isArmed, isOpened, holdsClose, resetSource, SettingsOk, DeskInOk]
  · exact ⟨by decide, fun _ => rfl, by decide, trivial, fun _ => ⟨rfl, rfl⟩, by decide, by decide, by decide, by decide⟩
  · refine ⟨trivial, by decide, trivial, by decide, ?_, ?_, ?_, trivial⟩ <;> simp [resetLane, OutBundleOk, resetLaneSettings]

theorem test_inv_of_link {l : LinkState} (h : LinkOk { resetLink with state := l, overrun := true }) (q : List Instr) :
    Inv { linked l with pending := q } := test_inv_of h ⟨.inl rfl, trivial⟩ q

theorem test_witness_EveryRequestIsAnswered :
    Inv (linked (.processing .status)) ∧ isRequest .status = true ∧ HandedOver .status (linked (.processing .status)) :=
  ⟨test_inv_of_link ⟨rfl, rfl⟩ [], rfl, rfl, rfl⟩

theorem test_witness_OneExchangeReturnsTheLinkToIdle :
    ∃ s : State, Inv s ∧ LinkFree s ∧ wellFormed .status = true ∧ encodeRequest .status = some (0x01#8, []) ∧
      s.pending = .request (requestBytes 0x01#8 []) :: .status :: .fetch 253 :: [] :=
  ⟨_, test_inv_of_link (l := .idle) ⟨rfl, trivial⟩ _, ⟨rfl, rfl, rfl⟩, rfl, rfl, rfl⟩

theorem test_witness_WholeRequestIsHandedOver :
    wellFormed .pollAlert = true ∧ encodeRequest .pollAlert = some (0x50#8, []) ∧ LinkFree busy ∧ (asked .status).rstLow = false ∧
      (asked .status).link.csHeld = false ∧ (asked .status).link.state ≠ .idle ∧
      (asked .status).link.state ≠ .processing .pollAlert := by
  refine ⟨rfl, rfl, ⟨rfl, rfl, rfl⟩, rfl, rfl, by decide, by decide⟩

theorem test_witness_StatusReadsEveryBlock : HandedOver .status (asked .status) := test_asked _

theorem test_witness_HandlesAreChecked :
    160 ≤ (0x01A0#16 : Handle).toNat % 256 ∧ HandleStale busyRoute 0x029F#16 ∧ HandleStale busyRoute 0x0200#16 ∧
      HandleNames busyRoute 0x0100#16 0 (live 5) ∧ HandedOver (.readRoute 0x0200#16) (asked (.readRoute 0x0200#16)) ∧
      HandedOver (.clearClip 0x0200#16) (asked (.clearClip 0x0200#16)) :=
  ⟨by decide, ⟨159, by decide, .inl rfl⟩, ⟨0, by decide, .inr (by decide)⟩, ⟨by decide, rfl, by decide⟩, test_asked _, test_asked _⟩

theorem test_witness_ReadRouteReturnsTheImage :
    HandedOver (.readRoute 0x0201#16) (asked (.readRoute 0x0201#16)) ∧
      HandleNames (asked (.readRoute 0x0201#16)).route 0x0201#16 1 (fading 6) ∧
      HandleNames busyRoute 0xFF02#16 2 (leaving 7) ∧ HandleNames busyRoute 0x0100#16 0 (live 5) :=
  ⟨test_asked _, ⟨by decide, rfl, by decide⟩, ⟨by decide, rfl, by decide⟩, ⟨by decide, rfl, by decide⟩⟩

theorem test_witness_FindDestReadsTheMap :
    HandedOver (.findDest 191#8) (asked (.findDest 191#8)) ∧ (191#8 : Byte).toNat = (191 : Fin 192).val ∧
      busyRoute.destMap[(191 : Fin 192)] = none ∧ 192 ≤ (192#8 : Byte).toNat ∧ busyRoute.destMap[(5 : Fin 192)] = some 0 :=
  ⟨test_asked _, rfl, rfl, by decide, rfl⟩

theorem test_witness_PagesRunUpwardFromTheStart :
    HandedOver (.listSource 255#8 159#8) (asked (.listSource 255#8 159#8)) ∧ 192 ≤ (192#8 : Byte).toNat ∧
      (254#8 : Byte).toNat ≤ 254 ∧ 160 ≤ (160#8 : Byte).toNat ∧ (191#8 : Byte).toNat = (191 : Fin 192).val ∧
      (159#8 : Byte).toNat = (159 : Fin 160).val ∧ HandedOver (.readNotices 0#8) (asked (.readNotices 0#8)) ∧
      HandedOver (.readSourceChanges 191#8) (asked (.readSourceChanges 191#8)) :=
  ⟨test_asked _, by decide, by decide, by decide, rfl, rfl, test_asked _, test_asked _⟩

theorem test_witness_ClipAndNoticesAreCleared :
    HandedOver (.clearClip 0x0100#16) (asked (.clearClip 0x0100#16)) ∧
      HandleNames (asked (.clearClip 0x0100#16)).route 0x0100#16 0 (live 5) ∧
      HandedOver (.ackNotices 1#8 [⟨0x0100#16, 1#8⟩]) (asked (.ackNotices 1#8 [⟨0x0100#16, 1#8⟩])) ∧
      HandedOver (.ackNotices 33#8 []) (asked (.ackNotices 33#8 [])) ∧ 32 < (33#8 : Byte).toNat ∧ 1 ≤ (1#8 : Byte).toNat :=
  ⟨test_asked _, ⟨by decide, rfl, by decide⟩, test_asked _, test_asked _, by decide, by decide⟩

theorem test_witness_GuardsAndClearAllRequests :
    HandedOver (.setGuards 0x0FFF#16) (asked (.setGuards 0x0FFF#16)) ∧ 4096 ≤ (0x1000#16 : Word).toNat ∧
      (0x0FFF#16 : Word).toNat < 4096 ∧ HandedOver (.clearAll true) (asked (.clearAll true)) :=
  ⟨test_asked _, by decide, by decide, test_asked _⟩

theorem test_witness_ReadMetersReadsARun :
    HandedOver (.readMeters 1#8 144#8 48#8) (asked (.readMeters 1#8 144#8 48#8)) ∧ (48#8 : Byte).toNat ≤ 48 ∧
      (144#8 : Byte).toNat + (48#8 : Byte).toNat ≤ 192 ∧ 2 ≤ (2#8 : Byte).toNat ∧ 192 < (145#8 : Byte).toNat + (48#8 : Byte).toNat :=
  ⟨test_asked _, by decide, by decide, by decide, by decide⟩

/-- The Edit Stage of the busy part is sound. -/
theorem test_busyEdit_ok : EditOk busyEdit := by
  refine ⟨fun i => ?_, by decide, by decide, by decide⟩
  fin_cases i <;> simp [busyEdit, BatchSlotOk, oneResult, Config.editLimit] <;> decide

/-- An Edit Stage with no slot OPEN: `first` in slot 0, the others DONE. -/
def noOpen (first : BatchSlot) : EditStage := ⟨#v[first, .done oneResult, .done oneResult, .done oneResult], [], 0#8⟩

theorem test_witness_OpenBatchOpensTheLowestFreeSlot :
    HandedOver .openBatch (asked .openBatch) ∧ EditOk (asked .openBatch).edit ∧ busyEdit.slots[(2 : Fin 4)] = .opened [retire0] ∧
      EditOk (noOpen .free) ∧ (∀ j : Fin 4, isOpened (noOpen .free).slots[j] = false) ∧ (noOpen .free).slots[(0 : Fin 4)] = .free ∧
      EditOk (noOpen (.done oneResult)) ∧ (∀ i : Fin 4, (noOpen (.done oneResult)).slots[i] ≠ .free) := by
  refine ⟨test_asked _, test_busyEdit_ok, rfl, ⟨fun i => ?_, by decide, by decide, by decide⟩, by decide, rfl,
    ⟨fun i => ?_, by decide, by decide, by decide⟩, by decide⟩ <;>
  fin_cases i <;> simp [noOpen, BatchSlotOk, oneResult, Config.editLimit]

theorem test_witness_AddEditJudgesInOrder :
    HandedOver (.addEdit 2#8 (.revert 0x0103#16)) (asked (.addEdit 2#8 (.revert 0x0103#16))) ∧
      busyEdit.slots[(2 : Fin 4)] = .opened [retire0] ∧ decodeEdit (.revert 0x0103#16) = some (.revert 0x0103#16) ∧
      HandleNames busyRoute 0x0103#16 3 (onBackup 8) ∧ (onBackup 8).dest ≠ retire0.dest ∧ decodeEdit (.unknown 0#8) = none ∧
      isOpened busyEdit.slots[(3 : Fin 4)] = false ∧ 4 ≤ (4#8 : Byte).toNat ∧ 16 ≤ (List.replicate 16 retire0).length :=
  ⟨test_asked _, rfl, rfl, ⟨by decide, rfl, by decide⟩, by decide, rfl, rfl, by decide, by decide⟩

theorem test_witness_ArmBatchJudgesInOrder :
    HandedOver (.armBatch 2#8 7#8 16#8 1#8) (asked (.armBatch 2#8 7#8 16#8 1#8)) ∧ (2#8 : Byte).toNat = (2 : Fin 4).val ∧
      busyEdit.slots[(2 : Fin 4)] = .opened [retire0] ∧ (7#8 : Byte).toNat = (7 : Fin 8).val ∧ 16 < (17#8 : Byte).toNat ∧
      9 < (10#8 : Byte).toNat ∧ 1 < (2#8 : Byte).toNat :=
  ⟨test_asked _, rfl, rfl, rfl, by decide, by decide, by decide⟩

theorem test_witness_ReleaseBatchFreesDoneAndOpen :
    HandedOver (.releaseBatch 0#8) (asked (.releaseBatch 0#8)) ∧ isDone busyEdit.slots[(0 : Fin 4)] = true ∧
      isArmed busyEdit.slots[(1 : Fin 4)] = true ∧ busyEdit.slots[(3 : Fin 4)] = .free ∧
      (∀ j : Fin 4, j ≠ 0 → isDone busyEdit.slots[j] = false) := ⟨test_asked _, rfl, rfl, rfl, by decide⟩

theorem test_witness_CancelBatchAndReadResult :
    HandedOver (.cancelBatch 1#8) (asked (.cancelBatch 1#8)) ∧ isArmed busyEdit.slots[(1 : Fin 4)] = true ∧
      HandedOver (.readResult 0#8) (asked (.readResult 0#8)) ∧ busyEdit.slots[(0 : Fin 4)] = .done oneResult ∧
      isDone busyEdit.slots[(2 : Fin 4)] = false ∧ oneResult.entries[0]? = some ⟨.create, 5, .applied, 256#16⟩ :=
  ⟨test_asked _, rfl, test_asked _, rfl, rfl, rfl⟩

/-- An edit of the list fails on the busy table: the record in slot 4 stands in a guarded port. -/
theorem test_witness_BatchIsAppliedByItsMode :
    isFailure (applyEdit busyRoute (.retire 0x0104#16 0)).outcome = true ∧
      isFailure (applyEdit busyRoute (.retire 0x0100#16 0)).outcome = false := by decide

/-- Entries of a batch: a RETIRE with the handle it carries, a CREATE that is APPLIED and one that is not. -/
theorem test_witness_BatchIsAppliedByItsMode_handles :
    ((applyBatch resetRoute [retire0, ⟨.create 5 leg3 none, 5⟩, ⟨.create 5 leg3 none, 5⟩] .each 0#8).2.entries.map
      fun e => (e.outcome, e.handle)) = [(.stale, 256#16), (.applied, 256#16), (.destBusy, 0#16)] := by decide

theorem test_witness_CreateTakesTheLowestFreeSlot :
    Guarded busyRoute 16 ∧ ¬ Guarded busyRoute 15 ∧ busyRoute.destMap[(5 : Fin 192)] ≠ none ∧ ¬ Guarded busyRoute 5 ∧
      busyRoute.destMap[(15 : Fin 192)] = none ∧ busyRoute.slots[(5 : Fin 160)].record = none ∧
      (∀ j : Fin 160, j < 5 → busyRoute.slots[j].record ≠ none) := by
  refine ⟨by decide, by decide, by decide, by decide, rfl, rfl, ?_⟩
  intro j hj
  have : j = 0 ∨ j = 1 ∨ j = 2 ∨ j = 3 ∨ j = 4 := by omega
  rcases this with rfl | rfl | rfl | rfl | rfl <;> decide

/-- A table with no FREE slot. -/
theorem test_witness_CreateTakesTheLowestFreeSlot_full :
    ∀ i : Fin 160, ({ resetRoute with slots := Vector.replicate 160 ⟨1#8, some (live 5)⟩ } : RouteTable).slots[i].record ≠ none := by
  intro i
  simp

theorem test_witness_ModifyChangesTheLeg :
    HandleNames busyRoute 0x0100#16 0 (live 5) ∧ ¬ Guarded busyRoute (live 5).dest ∧ ¬ Retiring (live 5) ∧
      HandleNames busyRoute 0x0104#16 4 (live 16) ∧ Guarded busyRoute (live 16).dest ∧
      HandleNames busyRoute 0xFF02#16 2 (leaving 7) ∧ Retiring (leaving 7) ∧ HandleStale busyRoute 0x0001#16 := by
  refine ⟨⟨by decide, rfl, by decide⟩, by decide, ?_, ⟨by decide, rfl, by decide⟩, by decide, ⟨by decide, rfl, by decide⟩,
    ⟨_, rfl⟩, ⟨1, by decide, .inr (by decide)⟩⟩
  rintro ⟨ramp, h⟩
  exact Phase.noConfusion h

theorem test_witness_RetireAndRevertChangeTheLeg :
    HandleNames busyRoute 0x0201#16 1 (fading 6) ∧ ¬ Guarded busyRoute (fading 6).dest ∧ ¬ Retiring (fading 6) ∧
      (fading 6).onBackup = false ∧ HandleNames busyRoute 0x0103#16 3 (onBackup 8) ∧ (onBackup 8).onBackup = true ∧
      ¬ Guarded busyRoute (onBackup 8).dest ∧ (onBackup 8).backup = some ⟨4, true, true, 2⟩ := by
  refine ⟨⟨by decide, rfl, by decide⟩, by decide, ?_, rfl, ⟨by decide, rfl, by decide⟩, rfl, by decide, rfl⟩
  rintro ⟨ramp, h⟩
  exact Phase.noConfusion h

theorem test_witness_BatchApplyAppliesTheDueSlots :
    busy.rstLow = false ∧ EditOk busy.edit ∧ busy.edit.queue = [] ++ 1 :: [] ∧
      busy.edit.slots[(1 : Fin 4)] = .armed [retire0] .each ⟨.ref, 0, true⟩ 0#8 := ⟨rfl, test_busyEdit_ok, rfl, rfl⟩

theorem test_witness_ClearAllRetiresTheTable :
    busy.rstLow = false ∧ busy.route.clearAll = some false ∧ State.reset.route.clearAll = none := ⟨rfl, rfl, rfl⟩

theorem test_witness_SwitchPointsCountBatchesDown :
    busy.rstLow = false ∧ (7 : Nat) = (busy.lanes[(0 : Fin 8)].pendingSettings.getD busy.lanes[(0 : Fin 8)].settings).switchLine ∧
      (2047 : Nat) ≠ (busy.lanes[(0 : Fin 8)].pendingSettings.getD busy.lanes[(0 : Fin 8)].settings).switchLine ∧
      BatchSlotOk (.armed [retire0] .each ⟨.ref, 1, false⟩ 0#8) ∧ BatchSlotOk busy.edit.slots[(1 : Fin 4)] := by
  refine ⟨rfl, by decide, by decide, ?_, ?_⟩ <;> simp [BatchSlotOk, busy, busyEdit] <;> decide

/-- A batch that stays ARMED through another command. -/
theorem test_witness_SwitchPointsCountBatchesDown_others :
    (∃ t, exec .pulseEnd busy = .next t ∧ isArmed t.edit.slots[(1 : Fin 4)] = true) ∧ Instr.pulseEnd ≠ .refFramePulse ∧
      (∀ n line words, Instr.pulseEnd ≠ .inputLineEvent n line words) ∧ Instr.pulseEnd ≠ .batchDue 1 ∧
      isArmed busy.edit.slots[(1 : Fin 4)] = true :=
  ⟨⟨_, rfl, rfl⟩, by decide, by intro n line words; exact Instr.noConfusion, by decide, rfl⟩

theorem test_witness_RampsRunTheirLength :
    (live 5).phase = .live ∧ leg3.code.val ≠ 0 ∧ busy.route.slots[(1 : Fin 160)].record = some (fading 6) ∧
      (fading 6).phase = .ramping ⟨leg3, 32, 31⟩ (some legOut) ∧ busy.route.slots[(2 : Fin 160)].record = some (leaving 7) ∧
      (leaving 7).phase = .retiring ⟨leg3, 32, 31⟩ := ⟨rfl, by decide, rfl, rfl, rfl, rfl⟩

/-- A ramp before its last position and one at it, with a leg queued and without, and a record that is RETIRING. -/
theorem test_witness_RampsRunTheirLength_ticks :
    (live 5).phase = .live ∧ { fading 6 with phase := .ramping ⟨leg3, 32, 30⟩ (some legOut) }.phase = .ramping ⟨leg3, 32, 30⟩ (some legOut) ∧
      { fading 6 with phase := .ramping ⟨leg3, 32, 30⟩ none }.phase = .ramping ⟨leg3, 32, 30⟩ none ∧
      { leaving 7 with phase := .retiring ⟨leg3, 32, 30⟩ }.phase = .retiring ⟨leg3, 32, 30⟩ ∧ 30 + 1 < 32 ∧ 31 + 1 = 32 :=
  ⟨rfl, rfl, rfl, rfl, by decide, by decide⟩

/-- A queued leg with ramp code 2 comes in at the end of a ramp of 32 ticks: R67, R68 and R64 by hand. -/
theorem test_queuedLegComesIn :
    advanceTimes 1 { fading 6 with phase := .ramping ⟨leg3, 32, 31⟩ (some { leg3 with boost := 2 }) } =
      some { fading 6 with current := { leg3 with boost := 2 }, phase := .ramping ⟨leg3, 64, 0⟩ none } := by rfl

/-- Source 3 has both entries; the record in slot 0 matches, its backup 4 is usable; the record in slot 3 is on backup 4. -/
theorem test_witness_FailoverTriggerJudgesEveryRecord :
    busy.rstLow = false ∧ busy.route.pendingLost[(3 : Fin 192)] = true ∧ busy.route.pendingQuiet[(4 : Fin 192)] = false ∧
      busy.route.slots[(0 : Fin 160)].record = some (live 5) ∧ (live 5).primary = .track 3 ∧
      (latestLeg (live 5)).source = .track 3 ∧ busy.monitor.sources[(4 : Fin 192)].state = .running ∧
      busy.monitor.sources[(4 : Fin 192)].quiet = false ∧ (onBackup 8).onBackup = true := by
  refine ⟨rfl, rfl, rfl, rfl, rfl, rfl, rfl, rfl, rfl⟩

/-- With both entries of source 3 and the LOST entry of source 4 taken: the record in slot 0 matches and its backup is usable, with every
source after reset it is not, the record in slot 3 is on a lost backup, and a RETIRING record is none of these. -/
theorem test_witness_FailoverTriggerJudgesEveryRecord_outcomes :
    FailoverMatch (fun m => m == 3 || m == 4) (fun m => m == 3) (live 5) ⟨4, true, true, 2⟩ ∧
      BackupUsable busySources ⟨4, true, true, 2⟩ ∧ ¬ BackupUsable State.reset.monitor.sources ⟨4, true, true, 2⟩ ∧
      OnLostBackup (fun m => m == 3 || m == 4) (onBackup 8) ∧
      ¬ OnLostBackup (fun m => m == 3 || m == 4) (leaving 7) ∧
      ∀ b, ¬ FailoverMatch (fun m => m == 3 || m == 4) (fun m => m == 3) (leaving 7) b := by
  refine ⟨⟨rfl, rfl, ?_, 3, rfl, rfl, .inl ⟨rfl, rfl⟩⟩, ⟨rfl, rfl⟩, ?_, ⟨?_, rfl, _, rfl, rfl⟩, ?_, ?_⟩
  · rintro ⟨ramp, h⟩
    exact Phase.noConfusion h
  · rintro ⟨h, -⟩
    exact absurd h (by decide)
  · rintro ⟨ramp, h⟩
    exact Phase.noConfusion h
  · exact fun h => h.1 ⟨_, rfl⟩
  · exact fun b h => h.2.2.1 ⟨_, rfl⟩

/-- Before step 3 of a tick of the busy part: a FREE slot, a record in another, and an entry pending. -/
theorem test_witness_TickComputesEveryDestination :
    wellFormed (.sampleTick someDesk) = true ∧ busy.rstLow = false ∧ (tableAtStep3 busy).slots[(5 : Fin 160)].record = none ∧
      (tableAtStep3 busy).slots[(4 : Fin 160)].record = some (live 16) ∧ busy.route.pendingLost[(3 : Fin 192)] = true := by
  decide

/-- Sources whose feed ends, by a close mark taken and by one found while LOST, and one whose feed does not. -/
theorem test_witness_TickHandsOverThePreviousTicksWork_feeds :
    FeedEnds busySources[(1 : Fin 192)] ∧ FeedEnds busySources[(6 : Fin 192)] ∧ ¬ FeedEnds busySources[(5 : Fin 192)] ∧
      ¬ FeedEnds busySources[(4 : Fin 192)] := by decide

theorem test_witness_TickHandsOverThePreviousTicksWork :
    wellFormed (.sampleTick someDesk) = true ∧ busy.rstLow = false ∧ busy.lanes[(0 : Fin 8)].presence = .present 239 ∧
      busy.lanes[(1 : Fin 8)].presence = .present 3 ∧ busy.lanes[(2 : Fin 8)].presence = .absent := by
  refine ⟨by decide, rfl, rfl, rfl, rfl⟩

theorem test_witness_TickFeedsEveryRing :
    wellFormed (.sampleTick someDesk) = true ∧ MonitorOk State.reset.monitor ∧ deskPortOf 144 = some 1 ∧
      someDesk[(1 : Fin 4).val]? = some ⟨List.replicate 16 5#24, true⟩ ∧ busy.desk.ins[(1 : Fin 4)].shift = .shifting ∧
      State.reset.monitor.sources[(144 : Fin 192)].state = .idle :=
  ⟨by decide, (test_inv_of_link (l := .idle) ⟨rfl, trivial⟩ []).monitor, rfl, rfl, rfl, rfl⟩

/-- Source 0 RUNNING and empty, source 1 RUNNING with a close mark next, every other RUNNING with a full FIFO. -/
def fullMonitor : SourceMonitor where
  sources := Vector.ofFn fun n =>
    { resetSource with
      state := .running
      fifo := if n.val = 0 then [] else if n.val = 1 then [.closeMark, .sample 1#24] else List.replicate 16 (.sample 7#24) }
  settings := resetSettings

theorem test_witness_TickFeedsEveryRing_heads :
    MonitorOk fullMonitor ∧ TakesHead fullMonitor.sources[(144 : Fin 192)] ∧
      fullMonitor.sources[(144 : Fin 192)].fifo = .sample 7#24 :: List.replicate 15 (.sample 7#24) ∧
      fullMonitor.sources[(0 : Fin 192)].state = .running ∧ fullMonitor.sources[(0 : Fin 192)].fifo = [] ∧
      FeedEnds fullMonitor.sources[(1 : Fin 192)] ∧ fullMonitor.sources[(1 : Fin 192)].fifo = [] ++ .closeMark :: [.sample 1#24] := by
  refine ⟨⟨fun n => ?_, fun n hn => ?_, by simp [fullMonitor, resetSettings, SettingsOk]⟩, .inl (by simp [fullMonitor]), by simp [fullMonitor],
    by simp [fullMonitor], by simp [fullMonitor], .inl ⟨.inl (by simp [fullMonitor]), by simp [fullMonitor]⟩, by simp [fullMonitor]⟩
  · refine ⟨?_, ?_, ?_, ?_, ?_, ?_, ?_, ?_, ?_⟩ <;>
      simp [fullMonitor, resetSource, resetMeter, TimerOk, levelCode, RingOk, Config.fifoDepth]
    split_ifs <;> decide
  · have h1 : n.val ≠ 1 := by omega
    simp [fullMonitor, holdsClose, h1]

/-- Sources that wait: 0 to 2 STARVED with no timer, at a count of 2 and at the last count; 3 LOST; every other PRIMING with 7 entries. -/
def waitingMonitor : SourceMonitor where
  sources := Vector.ofFn fun n =>
    { resetSource with
      state := if n.val < 3 then .starved else if n.val = 3 then .lost else .priming
      fifo := if n.val ≤ 3 then [] else List.replicate 7 (.sample 7#24)
      timer := if n.val = 1 then some 2 else if n.val = 2 then some 1 else none }
  settings := resetSettings

theorem test_waitingMonitor_ok : MonitorOk waitingMonitor := by
  refine ⟨fun n => ?_, fun n hn => ?_, by simp [waitingMonitor, resetSettings, SettingsOk]⟩
  · have h0 : n.val = 0 ∨ n.val = 1 ∨ n.val = 2 ∨ n.val = 3 ∨ 4 ≤ n.val := by omega
    rcases h0 with h | h | h | h | h <;> refine ⟨?_, ?_, ?_, ?_, ?_, ?_, ?_, ?_, ?_⟩ <;>
      simp [waitingMonitor, resetSource, resetMeter, TimerOk, levelCode, RingOk, Config.fifoDepth, h,
        show 4 ≤ n.val → n.val ≠ 1 ∧ n.val ≠ 2 ∧ n.val ≠ 3 ∧ ¬ n.val < 3 ∧ ¬ n.val ≤ 3 by omega]
  · have h3 : ¬ n.val ≤ 3 := by omega
    simp [waitingMonitor, holdsClose, h3]

theorem test_witness_TickFeedsEveryRing_waits :
    MonitorOk waitingMonitor ∧ deskPortOf 144 = some 1 ∧ Waits waitingMonitor.sources[(144 : Fin 192)] ∧
      waitingMonitor.sources[(144 : Fin 192)].fifo = .sample 7#24 :: List.replicate 6 (.sample 7#24) ∧
      deskPushed busy.desk.ins[(1 : Fin 4)] (List.replicate 16 5#24) ((144 - 128) % 16) = [.sample 5#24] ∧
      wellFormed (.sampleTick (List.replicate 4 ⟨List.replicate 16 5#24, false⟩)) = true := by
  refine ⟨test_waitingMonitor_ok, rfl, .inl (by simp [waitingMonitor]), by simp [waitingMonitor], rfl, by decide⟩

/-- The cases of the work of a tick in which no entry is taken and no feed ends. -/
theorem test_witness_TickFeedsEveryRing_starves :
    (∀ n : Fin 192, ¬ TakesHead waitingMonitor.sources[n] ∧ ¬ FeedEnds waitingMonitor.sources[n]) ∧
      waitingMonitor.sources[(0 : Fin 192)].timer = none ∧ waitingMonitor.sources[(1 : Fin 192)].timer = some 2 ∧
      waitingMonitor.sources[(2 : Fin 192)].timer = some 1 ∧ waitingMonitor.sources[(3 : Fin 192)].state = .lost ∧
      waitingMonitor.sources[(2 : Fin 192)].state = .starved := by
  refine ⟨fun n => ?_, by simp [waitingMonitor], by simp [waitingMonitor], by simp [waitingMonitor], by simp [waitingMonitor],
    by simp [waitingMonitor]⟩
  by_cases h : n.val ≤ 3 <;> simp [waitingMonitor, TakesHead, FeedEnds, h] <;> split_ifs <;> simp

theorem test_witness_LegProductIsRoundedExactly :
    leg3.source = .track 3 ∧ { leg3 with source := .silence }.source = .silence := ⟨rfl, rfl⟩

theorem test_witness_BlendStaysBetweenTheProducts :
    RampOk ⟨leg3, 32, 31⟩ ∧ RecordOk (live 5) ∧ RecordOk (fading 6) ∧ RecordOk (leaving 7) := by
  have h : RampOk ⟨leg3, 32, 31⟩ := ⟨⟨1, by decide, by decide⟩, by decide, rfl⟩
  refine ⟨h, ⟨rfl, by decide⟩, ⟨⟨rfl, h, fun _ => rfl⟩, by decide⟩, ⟨⟨rfl, rfl, h⟩, by decide⟩⟩

/-- Source 2 enters QUIET at its 50th frame. -/
theorem test_witness_PulseClosesTheWindow :
    busy.rstLow = false ∧ busy.windowTicked = true ∧ State.reset.windowTicked = false ∧
      busy.monitor.sources[(2 : Fin 192)].state = .running ∧ busy.monitor.sources[(2 : Fin 192)].quiet = false ∧
      busy.monitor.settings.quietLevel ≤ busy.monitor.sources[(2 : Fin 192)].meter.level ∧
      busy.monitor.settings.quietFrames ≤ min (busy.monitor.sources[(2 : Fin 192)].quietCount + 1) 255 := by
  refine ⟨rfl, rfl, rfl, rfl, rfl, by decide, by decide⟩

theorem test_witness_SourceEventsDoTheSourcesWork :
    busy.rstLow = false ∧ busy.monitor.sources[(5 : Fin 192)].state = .priming ∧
      busy.monitor.sources[(5 : Fin 192)].fifo = .sample 7#24 :: List.replicate 7 (.sample 7#24) ∧
      busy.monitor.sources[(1 : Fin 192)].fifo = [] ++ .closeMark :: [] ∧ busy.monitor.sources[(1 : Fin 192)].state = .running ∧
      busy.monitor.sources[(6 : Fin 192)].fifo = [.sample 1#24, .sample 1#24] ++ .closeMark :: [] ∧
      busy.monitor.sources[(6 : Fin 192)].state = .lost ∧ busy.monitor.sources[(3 : Fin 192)].state = .starved ∧
      busy.monitor.sources[(3 : Fin 192)].timer = some 1 ∧ busy.monitor.sources[(3 : Fin 192)].fifo = [] :=
  ⟨rfl, rfl, rfl, rfl, rfl, rfl, rfl, rfl, rfl, rfl⟩

/-- A PRIMING source whose 8 entries begin with a close mark; its feed ends, that of source 4 does not. -/
theorem test_witness_SourceEventsDoTheSourcesWork_mark :
    Waits { resetSource with state := .priming, fifo := .closeMark :: List.replicate 7 (.sample 1#24) } ∧
      7 ≤ (List.replicate 7 (Arrival.sample 1#24)).length ∧ ¬ FeedEnds busySources[(4 : Fin 192)] := by decide

theorem test_witness_LossTimeIsExact :
    busy.monitor.sources[(2 : Fin 192)].state = .running ∧ busy.monitor.sources[(2 : Fin 192)].fifo = [] ∧
      0 < 48 * resetSettings.lossTime := ⟨rfl, rfl, by decide⟩

theorem test_witness_ReadsClearTheirCounters :
    HandedOver (.readSource 191#8 true) (asked (.readSource 191#8 true)) ∧ (191#8 : Byte).toNat = (191 : Fin 192).val ∧
      192 ≤ (192#8 : Byte).toNat ∧ HandedOver (.readLane 7#8 true) (asked (.readLane 7#8 true)) ∧
      (7#8 : Byte).toNat = (7 : Fin 8).val ∧ 8 ≤ (8#8 : Byte).toNat := ⟨test_asked _, rfl, by decide, test_asked _, rfl, by decide⟩

theorem test_witness_MonitorSettingsAreReplaced :
    HandedOver (.setMonitor 0#8 8#8 1#8 2#8 0#8) (asked (.setMonitor 0#8 8#8 1#8 2#8 0#8)) ∧ 8 ≤ (8#8 : Byte).toNat ∧
      (23#8 : Byte).toNat ≤ 23 ∧ 1 ≤ (1#8 : Byte).toNat ∧ (2#8 : Byte).toNat = 2 ∧ 2 < (3#8 : Byte).toNat ∧
      HandedOver (.setChangeEnables 1#192) (asked (.setChangeEnables 1#192)) :=
  ⟨test_asked _, by decide, by decide, by decide, rfl, by decide, test_asked _⟩

theorem test_witness_AcknowledgedFlagsAreCleared :
    HandedOver (.ackSources 1#8 [3#8]) (asked (.ackSources 1#8 [3#8])) ∧ (∀ b ∈ [3#8, (191#8 : Byte)], b.toNat < 192) ∧
      (asked .status).monitor.sources[(3 : Fin 192)].changeFlag = true ∧ 192 ≤ (192#8 : Byte).toNat ∧
      HandedOver (.ackLanes 2#8) (asked (.ackLanes 2#8)) := ⟨test_asked _, by decide, rfl, by decide, test_asked _⟩

theorem test_witness_DeskPortsFollowTheirEnables :
    HandedOver (.setDesk 0#8 1#8 false) (asked (.setDesk 0#8 1#8 false)) ∧ (1#8 : Byte).toNat = (1 : Fin 4).val ∧
      busy.desk.ins[(1 : Fin 4)].enabled = true ∧ 2 ≤ (2#8 : Byte).toNat ∧ 4 ≤ (4#8 : Byte).toNat ∧
      wellFormed (.deskFrameInProgressCompleted (List.replicate 4 (List.replicate 16 1#24))) = true ∧
      busy.desk.framing = true ∧ State.reset.desk.framing = false ∧ busy.desk.ins[(1 : Fin 4)].shift = .shifting := by
  refine ⟨test_asked _, rfl, rfl, by decide, by decide, by decide, rfl, rfl, rfl⟩

theorem test_witness_LineEventReceivesEveryPacket :
    (2047 : Nat) ≤ 2047 ∧ busy.rstLow = false ∧ LaneOk busy.lanes[(2 : Fin 8)] :=
  ⟨by decide, rfl, (test_inv_of_link (l := .idle) ⟨rfl, trivial⟩ []).lanes 2⟩

/-- One packet of four frames, and the smallest foreign packet. -/
theorem test_witness_PacketsAreTakenBack :
    1 ≤ [(⟨1#24, 2#24⟩ : Frame)].length ∧ (List.replicate 4 (⟨0#24, 0#24⟩ : Frame)).length ≤ 4 ∧
      WholePacket [0x0100#16, 0#16, 0xFFFF#16] :=
  ⟨by decide, by decide, ⟨0x0100#16, 0#16, [0xFFFF#16], rfl, by decide, by decide⟩⟩

/-- Counts that follow a reference and one that does not; a close mark at an IDLE source, and FIFOs of 15 and of 16 entries. -/
theorem test_witness_LineEventReceivesEveryPacket_arrivals :
    (0#8 : Byte).toNat = ((255#8 : Byte).toNat + 1) % 256 ∧ (255#8 : Byte).toNat ≠ ((255#8 : Byte).toNat + 1) % 256 ∧
      resetSource.state = .idle ∧ resetSource.fifo = [] ∧ fullMonitor.sources[(2 : Fin 192)].state ≠ .idle ∧
      16 ≤ fullMonitor.sources[(2 : Fin 192)].fifo.length ∧ fullMonitor.sources[(1 : Fin 192)].fifo.length < 16 := by
  refine ⟨by decide, by decide, rfl, rfl, ?_, ?_, ?_⟩ <;> simp [fullMonitor]

/-- Markers and header words of a SAMPLE with one frame, a SILENT with four, a CLOSE, a SILENT of n = 5 (MALFORMED), a foreign packet. -/
theorem test_witness_PacketsAreTakenBack_classes :
    (0xB708#16 : Word).toNat / 256 = 0xB7 ∧ (0xB708#16 : Word).toNat / 8 % 32 = 1 ∧ (0xFF01#16 : Word).toNat % 256 = 1 ∧
      (0xB717#16 : Word).toNat / 8 % 32 = 2 ∧ (0x0304#16 : Word).toNat % 256 = 4 ∧ (0xB718#16 : Word).toNat / 8 % 32 = 3 ∧
      (0x0300#16 : Word).toNat % 256 = 0 ∧ ¬ (0x0305#16 : Word).toNat % 256 ≤ 4 ∧ (0x0010#16 : Word).toNat / 256 ≠ 0xB7 ∧
      (255#8 : Byte).toNat = (0xFF01#16 : Word).toNat / 256 ∧ (7 : Fin 8).val = (0xB717#16 : Word).toNat % 8 := by decide

/-- The frame of bundle 0 takes the whole budget of lane 0, so the CLOSE of bundle 1 is not granted and the line has no turn left. -/
theorem test_witness_OutputLineObeysItsBounds :
    (laneAtLine busy.lanes[(0 : Fin 8)]).settings.budget = 1 ∧ (laneAtLine busy.lanes[(0 : Fin 8)]).pointer = 3 ∧
      Requests busyLanes[(0 : Fin 8)].outBundles[(0 : Fin 8)] ∧ Requests busyLanes[(0 : Fin 8)].outBundles[(1 : Fin 8)] ∧
      grantPlace 3 0 < grantPlace 3 1 := ⟨rfl, rfl, by decide, by decide, by decide⟩

theorem test_witness_LaneSettingsArePendingThenInForce :
    HandedOver (.setLane 7#8 2047#16 0#8 8#8 1#8 7#8) (asked (.setLane 7#8 2047#16 0#8 8#8 1#8 7#8)) ∧
      (7#8 : Byte).toNat = (7 : Fin 8).val ∧ (1#8 : Byte).toNat = 1 ∧ (2047#16 : Word).toNat ≤ 2047 ∧
      (8#8 : Byte).toNat ≤ 8 ∧ 2047 < (2048#16 : Word).toNat ∧
      busy.lanes[(0 : Fin 8)].pendingSettings = some ⟨7, 0#8, 1, .fixed, 3⟩ ∧ busy.lanes[(1 : Fin 8)].pendingSettings = none :=
  ⟨test_asked _, rfl, rfl, by decide, by decide, by decide, rfl, rfl⟩

theorem test_witness_RestartLaneRestartsBothSides :
    HandedOver (.restartLane 7#8) (asked (.restartLane 7#8)) ∧ (7#8 : Byte).toNat = (7 : Fin 8).val ∧ 8 ≤ (8#8 : Byte).toNat :=
  ⟨test_asked _, rfl, by decide⟩

theorem test_witness_LaneEndsAndCloses :
    busy.rstLow = false ∧ busy.lanes[(0 : Fin 8)].presence = .present 239 ∧ busy.lanes[(1 : Fin 8)].presence = .present 3 ∧
      busy.lanes[(0 : Fin 8)].outLine = some ⟨7, [], 0, [0, 1, 2, 3, 4, 5, 6, 7]⟩ ∧
      busy.lanes[(0 : Fin 8)].outBundles[(1 : Fin 8)].activity = .closing ∧
      busy.lanes[(0 : Fin 8)].outBundles[(1 : Fin 8)].fifo = [] := ⟨rfl, rfl, rfl, rfl, rfl, rfl⟩

/-- A drained CLOSING bundle sends its CLOSE in the line once: the second command finds its turn passed (R138, R142). -/
theorem test_closeTurn_once :
    (closeTurn busyLanes[(0 : Fin 8)] 1).outBundles[(1 : Fin 8)].activity = .inactive ∧
      ((closeTurn busyLanes[(0 : Fin 8)] 1).outLine.map (·.turns)) = some [2, 3, 4, 5, 6, 7] := by decide

/-- A line in which bundle 1 sent its last frame leaves it no turn for its CLOSE, which waits for the next line (R138). -/
theorem test_closeTurn_not_after_frames :
    let lane := { resetLane with outBundles := resetLane.outBundles.set 1 ⟨.closing, [⟨1#24, 2#24⟩], 4#8, 0⟩ }
    (transmitLine lane 7 []).outBundles[(1 : Fin 8)].fifo = [] ∧
      (closeTurn (transmitLine lane 7 []) 1).outBundles[(1 : Fin 8)].activity = .closing := by decide

/-- In the busy part SOURCE is the highest of four eligible classes; after reset none is. -/
theorem test_witness_PollAndAckAlertServeAClass :
    HandedOver .pollAlert (asked .pollAlert) ∧ eligible (requests (asked .pollAlert)) (asked .pollAlert).alert .source = true ∧
      priorityPlace (asked .pollAlert).alert.pointer .source = 0 ∧
      (∀ c, eligible (requests State.reset) State.reset.alert c = false) ∧ (3#8 : Byte).toNat = classPlace .batch ∧
      4 ≤ (4#8 : Byte).toNat ∧ classFlag (asked .pollAlert).alert.inService .batch = false := by
  refine ⟨test_asked _, by decide, rfl, ?_, rfl, by decide, rfl⟩
  intro c
  cases c <;> decide

theorem test_witness_SetAlertReplacesTheSettings :
    HandedOver (.setAlert 15#8 1#8 3#8 1#8 16#8) (asked (.setAlert 15#8 1#8 3#8 1#8 16#8)) ∧ (15#8 : Byte).toNat < 16 ∧
      (3#8 : Byte).toNat = classPlace .batch ∧ (16#8 : Byte).toNat = 16 ∧ 16 ≤ (16#8 : Byte).toNat ∧
      (2#8 : Byte).toNat ≠ 1 ∧ (2#8 : Byte).toNat ≠ 4 := ⟨test_asked _, by decide, rfl, rfl, by decide, by decide, by decide⟩

theorem test_witness_LevelPinFollowsTheEligibleSet : busy.rstLow = false ∧ busy.alert.style = .level := ⟨rfl, rfl⟩

/-- The part in PULSE style with class LANE unmasked and nothing waiting. -/
def pulsing : State := { linked .idle with alert := { resetAlert with masked := ⟨true, true, false, true⟩, style := .pulse, width := 4 } }

/-- Its first line event makes LANE eligible. -/
theorem test_witness_PulseFollowsTheEligibleSet :
    Inv pulsing ∧ pulsing.rstLow = false ∧ pulsing.alert.style = .pulse ∧ alertWaiting pulsing = false ∧
      alertWaiting (lineEvent 0 1 [] pulsing) = true ∧
      exec (.inputLineEvent 0 1 []) pulsing = .next (settle pulsing (lineEvent 0 1 [] pulsing)) :=
  ⟨test_inv_of (l := .idle) ⟨rfl, trivial⟩ ⟨.inr (.inl rfl), trivial⟩ [], rfl, rfl, by decide, by decide, rfl⟩

theorem test_witness_EveryStepKeepsThePartSound :
    ∃ s t : State, Inv s ∧ step s = .next t := ⟨_, _, test_inv_of_link (l := .idle) ⟨rfl, trivial⟩ [.refFramePulse], rfl⟩

end Sys2Proof.Tests
end

section
/-!
SUPPORT. The meaning of every command as the shared operation it is made of: an event, an event with an operand that is judged, a request,
a request that only reads.
-/
namespace Sys2Proof.Machine

theorem exec_sampleTick (desk : List DeskArrival) (s : State) :
    exec (.sampleTick desk) s = takeWellFormed (wellFormedDesk desk) s (tick desk) := rfl

theorem exec_refFramePulse (s : State) : exec .refFramePulse s = takeEvent s referencePulse := rfl

theorem exec_inputLineEvent (lane : Fin 8) (line : Nat) (words : List Word) (s : State) :
    exec (.inputLineEvent lane line words) s = takeWellFormed (wellFormedLine line) s (lineEvent lane line words) := rfl

theorem exec_deviceReset (recognised : Bool) (s : State) :
    exec (.deviceReset recognised) s = .next (if recognised then resetState s else shortReset s) := rfl

theorem exec_resetRelease (csLow : Bool) (s : State) :
    exec (.resetRelease csLow) s = .next (if s.rstLow then releaseReset csLow s else s) := rfl

theorem exec_request (bytes : List Byte) (s : State) :
    exec (.request bytes) s = takeEvent s (requestTransaction bytes) := rfl

theorem exec_fetch (clocked : Nat) (s : State) :
    exec (.fetch clocked) s = takeEvent s (fetchTransaction clocked) := rfl

theorem exec_voidTransaction (bytes : List Byte) (s : State) :
    exec (.voidTransaction bytes) s = takeWellFormed (wellFormedVoid bytes) s (voidTransaction bytes) := rfl

theorem exec_status (s : State) : exec .status s = takeRequest .status s fun s =>
      ({ s with link := { s.link with fresh := false } }, okWith (statusBlock s)) := rfl

theorem exec_readRoute (handle : Handle) (s : State) :
    exec (.readRoute handle) s = takeRead (.readRoute handle) s fun s => readRoute s.route handle := rfl

theorem exec_findDest (dest : Byte) (s : State) :
    exec (.findDest dest) s = takeRead (.findDest dest) s fun s => findDest s.route dest := rfl

theorem exec_listSource (source start : Byte) (s : State) :
    exec (.listSource source start) s = takeRead (.listSource source start) s fun s => listSource s.route source start := rfl

theorem exec_clearClip (handle : Handle) (s : State) :
    exec (.clearClip handle) s = takeRequest (.clearClip handle) s fun s =>
      ({ s with route := (clearClip s.route handle).1 }, (clearClip s.route handle).2) := rfl

theorem exec_readNotices (start : Byte) (s : State) :
    exec (.readNotices start) s = takeRead (.readNotices start) s fun s => readNotices s.route start := rfl

theorem exec_ackNotices (count : Byte) (entries : List NoticeAck) (s : State) :
    exec (.ackNotices count entries) s = takeRequest (.ackNotices count entries) s fun s =>
      ({ s with route := (ackNotices s.route count entries).1 }, (ackNotices s.route count entries).2) := rfl

theorem exec_setGuards (mask : Word) (s : State) :
    exec (.setGuards mask) s = takeRequest (.setGuards mask) s fun s =>
      ({ s with route := (setGuards s.route mask).1 }, (setGuards s.route mask).2) := rfl

theorem exec_clearAll (force : Bool) (s : State) :
    exec (.clearAll force) s = takeRequest (.clearAll force) s fun s =>
      ({ s with route := askClearAll s.route force }, okWith []) := rfl

theorem exec_readMeters (side first count : Byte) (s : State) :
    exec (.readMeters side first count) s = takeRead (.readMeters side first count) s fun s => readMeters s side first count := rfl

theorem exec_openBatch (s : State) :
    exec .openBatch s = takeRequest .openBatch s fun s => ({ s with edit := (openBatch s.edit).1 }, (openBatch s.edit).2) := rfl

theorem exec_addEdit (slot : Byte) (fields : EditFields) (s : State) :
    exec (.addEdit slot fields) s = takeRequest (.addEdit slot fields) s fun s =>
      ({ s with edit := (addEdit s.route s.edit slot fields).1 }, (addEdit s.route s.edit slot fields).2) := rfl

theorem exec_armBatch (slot timing frames mode : Byte) (s : State) :
    exec (.armBatch slot timing frames mode) s = takeRequest (.armBatch slot timing frames mode) s fun s =>
      ({ s with edit := (armBatch s.edit slot timing frames mode).1 }, (armBatch s.edit slot timing frames mode).2) := rfl

theorem exec_readResult (slot : Byte) (s : State) :
    exec (.readResult slot) s = takeRead (.readResult slot) s fun s => readResult s.edit slot := rfl

theorem exec_releaseBatch (slot : Byte) (s : State) :
    exec (.releaseBatch slot) s = takeRequest (.releaseBatch slot) s fun s =>
      ({ s with edit := (releaseBatch s.edit slot).1 }, (releaseBatch s.edit slot).2) := rfl

theorem exec_cancelBatch (slot : Byte) (s : State) :
    exec (.cancelBatch slot) s = takeRequest (.cancelBatch slot) s fun s =>
      ({ s with edit := (cancelBatch s.edit slot).1 }, (cancelBatch s.edit slot).2) := rfl

theorem exec_readSource (source : Byte) (clear : Bool) (s : State) :
    exec (.readSource source clear) s = takeRequest (.readSource source clear) s fun s =>
      ({ s with monitor := (readSource s.monitor source clear).1 }, (readSource s.monitor source clear).2) := rfl

theorem exec_setMonitor (lossTime q f lostEdges quietEdges : Byte) (s : State) :
    exec (.setMonitor lossTime q f lostEdges quietEdges) s = takeRequest (.setMonitor lossTime q f lostEdges quietEdges) s fun s =>
      ({ s with monitor := (setMonitor s.monitor lossTime q f lostEdges quietEdges).1 },
        (setMonitor s.monitor lossTime q f lostEdges quietEdges).2) := rfl

theorem exec_setChangeEnables (enables : BitVec 192) (s : State) :
    exec (.setChangeEnables enables) s = takeRequest (.setChangeEnables enables) s fun s =>
      ({ s with monitor := setEnables s.monitor enables },
        okWith (enableBytes (enablesInForce (setEnables s.monitor enables).sources))) := rfl

theorem exec_readSourceChanges (start : Byte) (s : State) :
    exec (.readSourceChanges start) s = takeRead (.readSourceChanges start) s fun s => readSourceChanges s.monitor start := rfl

theorem exec_ackSources (count : Byte) (sources : List Byte) (s : State) :
    exec (.ackSources count sources) s = takeRequest (.ackSources count sources) s fun s =>
      ({ s with monitor := (ackSources s.monitor count sources).1 }, (ackSources s.monitor count sources).2) := rfl

theorem exec_setDesk (direction port : Byte) (enable : Bool) (s : State) :
    exec (.setDesk direction port enable) s = takeRequest (.setDesk direction port enable) s fun s =>
      setDesk s direction port enable := rfl

theorem exec_readLane (lane : Byte) (clear : Bool) (s : State) :
    exec (.readLane lane clear) s = takeRequest (.readLane lane clear) s fun s =>
      ({ s with lanes := (readLane s.lanes lane clear).1 }, (readLane s.lanes lane clear).2) := rfl

theorem exec_setLane (lane : Byte) (switchLine : Word) (keepMask budget mode lowest : Byte) (s : State) :
    exec (.setLane lane switchLine keepMask budget mode lowest) s =
      takeRequest (.setLane lane switchLine keepMask budget mode lowest) s fun s =>
      ({ s with lanes := (setLane s.lanes lane switchLine keepMask budget mode lowest).1 },
        (setLane s.lanes lane switchLine keepMask budget mode lowest).2) := rfl

theorem exec_restartLane (lane : Byte) (s : State) :
    exec (.restartLane lane) s = takeRequest (.restartLane lane) s fun s => restartLaneNumbered s lane := rfl

theorem exec_ackLanes (mask : Byte) (s : State) :
    exec (.ackLanes mask) s = takeRequest (.ackLanes mask) s fun s =>
      ({ s with lanes := clearLaneFlags s.lanes mask }, okWith [laneFlags (clearLaneFlags s.lanes mask)]) := rfl

theorem exec_pollAlert (s : State) : exec .pollAlert s = takeRequest .pollAlert s pollAlert := rfl

theorem exec_ackAlert (cls : Byte) (s : State) :
    exec (.ackAlert cls) s = takeRequest (.ackAlert cls) s fun s => ackAlert s cls := rfl

theorem exec_setAlert (masks mode lowest style width : Byte) (s : State) :
    exec (.setAlert masks mode lowest style width) s = takeRequest (.setAlert masks mode lowest style width) s fun s =>
      setAlert s masks mode lowest style width := rfl

theorem exec_clearAllExecute (s : State) : exec .clearAllExecute s = takeEvent s clearAllStep := rfl

theorem exec_batchApply (s : State) : exec .batchApply s = takeEvent s batchApplyStep := rfl

theorem exec_failoverTrigger (source : Fin 192) (kind : TriggerKind) (s : State) :
    exec (.failoverTrigger source kind) s = takeEvent s fun s =>
      { s with route := takeTrigger s.monitor.sources source kind s.route } := rfl

theorem exec_rampEnd (slot : Fin 160) (s : State) :
    exec (.rampEnd slot) s = takeEvent s fun s => { s with route := rampEndAt s.route slot } := rfl

theorem exec_retireRampEnd (slot : Fin 160) (s : State) :
    exec (.retireRampEnd slot) s = takeEvent s fun s => { s with route := retireEndAt s.route slot } := rfl

theorem exec_sourceRunning (source : Fin 192) (s : State) :
    exec (.sourceRunning source) s = takeEvent s fun s =>
      if isWaiting s.monitor.sources[source] && isPrimed s.monitor.sources[source] then workOne source s else s := rfl

theorem exec_closeMarkTaken (source : Fin 192) (s : State) :
    exec (.closeMarkTaken source) s = takeEvent s fun s =>
      if (sourceWork s.monitor.settings s.monitor.sources[source]).becameIdle then workOne source s else s := rfl

theorem exec_lossTimerExpiry (source : Fin 192) (s : State) :
    exec (.lossTimerExpiry source) s = takeEvent s fun s =>
      if (sourceWork s.monitor.settings s.monitor.sources[source]).enteredLost then workOne source s else s := rfl

theorem exec_presenceTimeout (lane : Fin 8) (s : State) :
    exec (.presenceTimeout lane) s = takeEvent s fun s => { s with lanes := bankModify s.lanes lane presenceTimeout } := rfl

theorem exec_pulseEnd (s : State) : exec .pulseEnd s = takeEvent s fun s => { s with alert := pulseEnd s.alert } := rfl

theorem exec_quietEntered (source : Fin 192) (s : State) :
    exec (.quietEntered source) s = takeEvent s (enterQuiet source) := rfl

theorem exec_batchDue (slot : Fin 4) (s : State) :
    exec (.batchDue slot) s = takeEvent s fun s =>
      { s with edit := { s.edit with slots := bankModify s.edit.slots slot becomeDue } } := rfl

theorem exec_setLaneInForce (lane : Fin 8) (s : State) :
    exec (.setLaneInForce lane) s = takeEvent s fun s => { s with lanes := bankModify s.lanes lane bringSettings } := rfl

theorem exec_closePacketGrant (lane bundle : Fin 8) (s : State) :
    exec (.closePacketGrant lane bundle) s = takeEvent s fun s =>
      { s with lanes := bankModify s.lanes lane fun l => closeTurn l bundle } := rfl

theorem exec_deskFrameInProgressCompleted (frames : List (List Sample)) (s : State) :
    exec (.deskFrameInProgressCompleted frames) s = takeWellFormed (wellFormedFrames frames) s fun s =>
      { s with desk := completeDeskFrames frames s.desk } := rfl

end Sys2Proof.Machine
end

section
/-!
SUPPORT. From the shared operation a command's meaning is made of to the outcome a claim names (`DoneWith`, `AnsweredWith`, `TakenWith`).
Each lemma takes the command's equation (`exec_status`, ...) as its first argument.
-/
namespace Sys2Proof.Machine

variable {i : Instr} {s : State}

/-- An event while RESET_N is high does its work (R157). -/
theorem doneWith_of_event {work : State → State} (arm : exec i s = takeEvent s work) (h : s.rstLow = false) :
    DoneWith i s (work s) :=
  arm.trans (takeEvent_taken h work)

/-- An event whose operand an environment can send does its work (log 12). -/
theorem doneWith_of_wellFormed {ok : Bool} {work : State → State} (arm : exec i s = takeWellFormed ok s work) (hok : ok = true)
    (h : s.rstLow = false) : DoneWith i s (work s) := by
  subst hok
  exact doneWith_of_event arm h

/-- An event whose work changes nothing of the requests and of the Alert Controller leaves exactly its work. -/
theorem exec_eq_of_doneWith {t : State} (h : DoneWith i s t) (hq : requests t = requests s) (ha : t.alert = s.alert) :
    exec i s = .next t :=
  h.trans (congrArg _ (settle_of_same (alertWaiting_congr hq ha)))

/-- An event whose work changes nothing leaves the part as it is. -/
theorem exec_eq_self_of_doneWith {t : State} (h : DoneWith i s t) (ht : t = s) : exec i s = .next s := by
  subst ht
  exact exec_eq_of_doneWith h rfl rfl

/-- A reading request handed over is answered, and nothing else changes (R169). -/
theorem answeredWith_of_read {answer : State → Response} (arm : exec i s = takeRead i s answer) (h : HandedOver i s) :
    AnsweredWith i s (answer s) :=
  arm.trans (takeRead_handed h answer)

/-- A request handed over is taken by its block (R169). -/
theorem takenWith_of_request {act : State → State × Response} (arm : exec i s = takeRequest i s act) (h : HandedOver i s) :
    TakenWith i s (act s).1 (act s).2 :=
  arm.trans (takeRequest_handed h act)

/-- A request handed over that its block refuses is answered, and nothing else changes. -/
theorem answeredWith_of_refused {act : State → State × Response} {r : Response} (arm : exec i s = takeRequest i s act)
    (h : HandedOver i s) (hact : act s = (s, r)) : AnsweredWith i s r := by
  have ht : TakenWith i s (act s).1 (act s).2 := takenWith_of_request arm h
  rw [hact] at ht
  exact ht.trans (congrArg _ (settle_respond_self s r))

end Sys2Proof.Machine
end

section
/-!
SUPPORT. Banks read at an index that an operation does not name.
-/
namespace Sys2Proof

variable {α : Type} {n : Nat} (v : Vector α n) {i j : Fin n}

theorem bankSet_other (x : α) (h : j ≠ i) : (bankSet v i x)[j] = v[j] :=
  bankSet_get_ne v i x j j.isLt fun e => h (Fin.ext e.symm)

theorem bankModify_other (f : α → α) (h : j ≠ i) : (bankModify v i f)[j] = v[j] :=
  bankModify_get_ne v i f j j.isLt fun e => h (Fin.ext e.symm)

end Sys2Proof
end

section
/-!
CREATE at apply (R24, R50): the number of a handle, the lowest FREE slot, one equation a check.
-/
namespace Sys2Proof.Machine

/-- A word made of two bytes, as a number. -/
theorem wordOf_toNat (a b : Byte) : (wordOf a b).toNat = a.toNat * 256 + b.toNat := by
  unfold wordOf
  rw [BitVec.toNat_append, ← Nat.shiftLeft_add_eq_or_of_lt b.isLt, Nat.shiftLeft_eq]

/-- A handle is generation × 256 + slot (R21). -/
theorem makeHandle_toNat (g : Byte) (i : Fin 160) : (makeHandle g i).toNat = g.toNat * 256 + i.val := by
  have hi : i.val % 2 ^ 8 = i.val := Nat.mod_eq_of_lt (by omega)
  rw [makeHandle, wordOf_toNat, BitVec.toNat_ofNat, hi]

/-- The FREE slot below which no slot is FREE is the lowest one (R24). -/
theorem lowestFree_eq_some {rt : RouteTable} {i : Fin 160} (hi : rt.slots[i].record = none)
    (hlt : ∀ j : Fin 160, j < i → rt.slots[j].record ≠ none) : lowestFree rt = some i := by
  cases hl : lowestFree rt with
  | none => exact absurd hi (Option.isSome_iff_ne_none.1 (lowestFree_none.1 hl i))
  | some k =>
    obtain ⟨hk, hbelow⟩ := lowestFree_spec hl
    rcases lt_trichotomy k i with h | h | h
    · exact absurd hk (hlt k h)
    · rw [h]
    · exact absurd hi (Option.isSome_iff_ne_none.1 (hbelow i h))

section
variable {rt : RouteTable} {d : Fin 192} (leg : Leg) (b : Option Backup)

theorem applyCreate_guarded (h : isGuarded rt d = true) : applyCreate rt d leg b = ⟨.guarded, 0#16, rt⟩ := by
  rw [applyCreate, if_pos h]

theorem applyCreate_destBusy (hg : isGuarded rt d ≠ true) (hd : rt.destMap[d] ≠ none) :
    applyCreate rt d leg b = ⟨.destBusy, 0#16, rt⟩ := by
  rw [applyCreate, if_neg hg, if_pos (Option.isSome_iff_ne_none.2 hd)]

theorem applyCreate_tableFull (hg : isGuarded rt d ≠ true) (hd : rt.destMap[d] = none) (hl : lowestFree rt = none) :
    applyCreate rt d leg b = ⟨.tableFull, 0#16, rt⟩ := by
  rw [applyCreate, if_neg hg, if_neg (by simpa using hd), hl]

theorem applyCreate_applied (hg : isGuarded rt d ≠ true) (hd : rt.destMap[d] = none) {i : Fin 160}
    (hl : lowestFree rt = some i) :
    applyCreate rt d leg b =
      ⟨.applied, makeHandle rt.slots[i].gen i,
        { setRecord rt i (createRecord d leg b) with destMap := bankSet rt.destMap d (some i) }⟩ := by
  rw [applyCreate, if_neg hg, if_neg (by simpa using hd), hl]

end

/-- Settles O28, by the order of the checks and the lowest FREE slot. -/
theorem createTakesTheLowestFreeSlot : Obligations.CreateTakesTheLowestFreeSlot := by
  intro rt d leg b
  refine ⟨applyCreate_guarded leg b, applyCreate_destBusy leg b, fun hg hd hfull => ?_, fun i hg hd hi hlt => ?_⟩
  · exact applyCreate_tableFull leg b hg hd (lowestFree_none.2 fun i => Option.isSome_iff_ne_none.2 (hfull i))
  · refine ⟨_, _, applyCreate_applied leg b hg hd (lowestFree_eq_some hi hlt), makeHandle_toNat _ i, ?_, fun j hj => ?_, ?_,
      fun e he => ?_, rfl⟩
    · simp [createRecord]
    · exact bankModify_other _ _ hj
    · exact bankSet_get_self _ _ _
    · exact bankSet_other _ _ he

end Sys2Proof.Machine
end

section
/-!
Paging (R36, R38, R112): a page read off the list of all items from its start. The page's items are the first 32, its continue index the
one that follows the 32nd item's.
-/
namespace Sys2Proof.Machine

/-! ## The page of a bank -/

section
variable {n : Nat} {α : Type} (pick : Fin n → Option α)

/-- The items of some indices of a bank, with their indices. -/
def itemsOn (is : List (Fin n)) : List (Fin n × α) := is.filterMap fun i => (pick i).map fun a => (i, a)

@[simp] theorem itemsOn_nil : itemsOn pick [] = [] := rfl

theorem itemsOn_cons_none {i : Fin n} (h : pick i = none) (is : List (Fin n)) : itemsOn pick (i :: is) = itemsOn pick is := by
  simp [itemsOn, h]

theorem itemsOn_cons_some {i : Fin n} {a : α} (h : pick i = some a) (is : List (Fin n)) :
    itemsOn pick (i :: is) = (i, a) :: itemsOn pick is := by
  simp [itemsOn, h]

theorem bankIndices_getElem? (k : Nat) : (bankIndices n)[k]? = toIndex n k := by
  unfold toIndex bankIndices
  split <;> simp_all

/-- The indices of a bank from a start upward, as a condition on the index. -/
theorem filter_le_finRange (start : Fin n) : ((List.finRange n).filter fun i => start ≤ i) = indicesFrom start := by
  have htake : ((List.finRange n).take start.val).filter (fun i => decide (start ≤ i)) = [] := by
    simp only [List.filter_eq_nil_iff, List.mem_take_iff_getElem, decide_eq_true_eq, not_le]
    rintro i ⟨k, hk, rfl⟩
    simp only [List.getElem_finRange, Fin.lt_def, Fin.val_cast]
    omega
  have hdrop : ((List.finRange n).drop start.val).filter (fun i => decide (start ≤ i)) = (List.finRange n).drop start.val := by
    simp only [List.filter_eq_self, List.mem_drop_iff_getElem, decide_eq_true_eq]
    rintro i ⟨k, hk, rfl⟩
    simp [Fin.le_def]
  calc ((List.finRange n).filter fun i => start ≤ i)
      = ((List.finRange n).take start.val ++ (List.finRange n).drop start.val).filter (fun i => decide (start ≤ i)) := by
        rw [List.take_append_drop]
    _ = indicesFrom start := by rw [List.filter_append, htake, hdrop]; rfl

theorem itemsFrom_eq (start : Fin n) : itemsFrom pick start = itemsOn pick (indicesFrom start) := by
  rw [← filter_le_finRange]
  rfl

/-- A page holds the first items there is room for. -/
theorem collectPage_items (is : List (Fin n)) (room : Nat) :
    (collectPage pick is (room + 1)).1 = ((itemsOn pick is).take (room + 1)).map (·.2) := by
  induction is generalizing room with
  | nil => rfl
  | cons i is ih =>
    cases h : pick i with
    | none => rw [collectPage_none h, itemsOn_cons_none pick h, ih]
    | some a =>
      rw [itemsOn_cons_some pick h]
      cases room with
      | zero => rw [collectPage_last h]; rfl
      | succ room => rw [collectPage_some h, ih]; rfl

/-- Where a page of the indices from `k` upward leaves off: at the index after that of its last item, once it is full. -/
theorem collectPage_continue (k room : Nat) :
    (collectPage pick ((bankIndices n).drop k) (room + 1)).2 =
      (itemsOn pick ((bankIndices n).drop k))[room]?.bind fun x => toIndex n (x.1.val + 1) := by
  generalize his : (bankIndices n).drop k = is
  induction is generalizing k room with
  | nil => rfl
  | cons i is ih =>
    have hk : k < (bankIndices n).length := by
      by_contra hk
      rw [List.drop_eq_nil_of_le (not_lt.1 hk)] at his
      cases his
    rw [List.drop_eq_getElem_cons hk] at his
    obtain ⟨hi, hrest⟩ := List.cons.inj his
    have hik : i.val = k := by rw [← hi]; simp [bankIndices]
    cases h : pick i with
    | none => rw [collectPage_none h, itemsOn_cons_none pick h, ih (k + 1) room hrest]
    | some a =>
      rw [itemsOn_cons_some pick h]
      cases room with
      | zero =>
        rw [collectPage_last h, ← hrest, List.head?_drop, bankIndices_getElem?, ← hik]
        rfl
      | succ room =>
        rw [collectPage_some h, ih (k + 1) room hrest]
        rfl

/-- The continue byte: END, or the index after the 32nd item's. -/
theorem continueByte_next (items : List (Fin n × α)) :
    continueByte (items[31]?.bind fun x => toIndex n (x.1.val + 1)) = continueAfter items := by
  unfold continueAfter
  cases items[31]? with
  | none => rfl
  | some x =>
    have hx : x.1.val < n := x.1.isLt
    by_cases hn : x.1.val + 1 = n
    · rw [Option.bind_some, toIndex_eq_none.2 (by omega)]
      exact (if_pos hn).symm
    · rw [Option.bind_some, toIndex_lt (by omega)]
      exact (if_neg hn).symm

end

/-- The page of a start: how many items, where to go on, the first 32 items (R36, R38, R112). -/
theorem pageBytes_pageFrom {n : Nat} (pick : Fin n → Option (List Byte)) (start : Fin n) :
    pageBytes (pageFrom pick start) = pagePayload (itemsFrom pick start) := by
  have hitems : (pageFrom pick start).1 = ((itemsFrom pick start).take 32).map (·.2) := by
    rw [itemsFrom_eq]
    exact collectPage_items pick (indicesFrom start) 31
  have hnext : continueByte (pageFrom pick start).2 = continueAfter (itemsFrom pick start) := by
    rw [itemsFrom_eq, ← continueByte_next]
    exact congrArg continueByte (collectPage_continue pick start.val 31)
  rw [pageBytes, pagePayload, hitems, hnext, List.length_map, List.length_take, Nat.min_comm, ← List.flatMap_def]
  rfl

/-- A page is the page of any collection with the same items. -/
theorem answeredWith_page_congr {c : Instr} {s : State} {n : Nat} {pick pick' : Fin n → Option (List Byte)} {st : Fin n}
    (h : AnsweredWith c s ⟨.ok, pagePayload (itemsFrom pick st)⟩) (hp : ∀ k, pick' k = pick k) :
    AnsweredWith c s ⟨.ok, pagePayload (itemsFrom pick' st)⟩ := by
  rw [funext hp]
  exact h

/-! ## What the three commands collect -/

/-- A handle as it is sent: generation, then slot (R21, R179). -/
theorem wordBytes_makeHandle (g : Byte) (i : Fin 160) : wordBytes (makeHandle g i) = [g, BitVec.ofNat 8 i.val] := by
  simp [wordBytes, makeHandle]

/-- The byte of a record's notices (R38, R180). -/
theorem noticesByte_eq (n : Notices) : noticesByte n = BitVec.ofNat 8
    ((if n.failoverTaken then 1 else 0) + (if n.backupUnusable then 2 else 0) + if n.backupLost then 4 else 0) := by
  rcases n with ⟨_ | _, _ | _, _ | _⟩ <;> rfl

/-- A record reads a source with one of its legs (R17, R36). -/
theorem readsSource_eq_any (r : Record) (src : LegSource) :
    readsSource r src = (legsOf r).any fun l => decide (l.source = src) := by
  obtain ⟨dest, current, phase, primary, backup, onBackup, clip, notices⟩ := r
  rcases phase with _ | ⟨ramp, _ | next⟩ | ramp <;>
    simp [readsSource, legsOf, rampOf, nextLegOf, Bool.or_assoc, Bool.beq_eq_decide_eq]

theorem decodeLegSource_range {b : Byte} (h1 : 192 ≤ b.toNat) (h2 : b.toNat ≤ 254) : decodeLegSource b = none := by
  have hb : b ≠ 255#8 := by
    rintro rfl
    exact absurd h2 (by decide)
  rw [decodeLegSource, if_neg hb, toIndex_eq_none.2 h1]
  rfl

theorem decodeLegSource_track {b : Byte} {n : Fin 192} (h : b.toNat = n.val) : decodeLegSource b = some (.track n) := by
  have hb : b ≠ 255#8 := by
    rintro rfl
    have : (255#8 : Byte).toNat = 255 := rfl
    omega
  rw [decodeLegSource, if_neg hb, h, toIndex_val]
  rfl

theorem listSource_range {source start : Byte} (rt : RouteTable)
    (h : decodeLegSource source = none ∨ toIndex 160 start.toNat = none) : listSource rt source start = ⟨.range, []⟩ := by
  unfold listSource
  rcases h with h | h
  · rw [h]; rfl
  · cases hs : decodeLegSource source <;> rw [h] <;> rfl

theorem listSource_ok {source start : Byte} {src : LegSource} {st : Fin 160} (rt : RouteTable)
    (hs : decodeLegSource source = some src) (ht : start.toNat = st.val) :
    listSource rt source start = ⟨.ok, pagePayload (itemsFrom (listedHandle rt src) st)⟩ := by
  rw [listSource, hs, ht, toIndex_val, ← pageBytes_pageFrom]
  rfl

theorem readNotices_range {start : Byte} (rt : RouteTable) (h : 160 ≤ start.toNat) : readNotices rt start = ⟨.range, []⟩ := by
  rw [readNotices, toIndex_eq_none.2 h]
  rfl

theorem readNotices_ok {start : Byte} {st : Fin 160} (rt : RouteTable) (ht : start.toNat = st.val) :
    readNotices rt start = ⟨.ok, pagePayload (itemsFrom (listedNotices rt) st)⟩ := by
  rw [readNotices, ht, toIndex_val, ← pageBytes_pageFrom]
  rfl

theorem readSourceChanges_range {start : Byte} (m : SourceMonitor) (h : 192 ≤ start.toNat) :
    readSourceChanges m start = ⟨.range, []⟩ := by
  rw [readSourceChanges, toIndex_eq_none.2 h]
  rfl

theorem readSourceChanges_ok {start : Byte} {st : Fin 192} (m : SourceMonitor) (ht : start.toNat = st.val) :
    readSourceChanges m start = ⟨.ok, pagePayload (itemsFrom (listedChange m.sources) st)⟩ := by
  rw [readSourceChanges, ht, toIndex_val, ← pageBytes_pageFrom]
  rfl

/-- Settles O17: the three answers are pages, each of what its command collects. -/
theorem pagesRunUpwardFromTheStart : Obligations.PagesRunUpwardFromTheStart := by
  refine ⟨fun source start s h => ?_, fun start s h => ?_, fun start s h => ?_⟩
  · have hans : AnsweredWith (.listSource source start) s (listSource s.route source start) :=
      answeredWith_of_read (exec_listSource source start s) h
    refine ⟨fun hr => ?_, fun src st hsrc hst => ?_⟩
    · rwa [listSource_range s.route (hr.imp (fun hs => decodeLegSource_range hs.1 hs.2) toIndex_eq_none.2)] at hans
    · have hdec : decodeLegSource source = some src := by
        rcases hsrc with ⟨rfl, rfl⟩ | ⟨n, rfl, hn⟩
        · rfl
        · exact decodeLegSource_track hn
      rw [listSource_ok s.route hdec hst] at hans
      refine answeredWith_page_congr hans fun i => ?_
      simp only [listedHandle, readsSource_eq_any, wordBytes_makeHandle]
      cases s.route.slots[i].record <;> rfl
  · have hans : AnsweredWith (.readNotices start) s (readNotices s.route start) :=
      answeredWith_of_read (exec_readNotices start s) h
    refine ⟨fun hr => by rwa [readNotices_range s.route hr] at hans, fun st hst => ?_⟩
    rw [readNotices_ok s.route hst] at hans
    refine answeredWith_page_congr hans fun i => ?_
    simp only [listedNotices, wordBytes_makeHandle]
    cases s.route.slots[i].record with
    | none => rfl
    | some r => simp [hasNotice, noticesByte_eq, or_assoc]
  · have hans : AnsweredWith (.readSourceChanges start) s (readSourceChanges s.monitor start) :=
      answeredWith_of_read (exec_readSourceChanges start s) h
    refine ⟨fun hr => by rwa [readSourceChanges_range s.monitor hr] at hans, fun st hst => ?_⟩
    rw [readSourceChanges_ok s.monitor hst] at hans
    exact answeredWith_page_congr hans fun i => rfl

end Sys2Proof.Machine
end

section
/-!
ARM_BATCH (R42, R48): the codes of its fields, then one equation a check of the Edit Stage.
-/
namespace Sys2Proof.Machine

/-! ## The fields (R10, R180) -/

theorem decodeBatchMode_each {b : Byte} (h : b.toNat = 0) : decodeBatchMode b = some .each := by
  rw [decodeBatchMode, h]
  rfl

theorem decodeBatchMode_allOrNone {b : Byte} (h : b.toNat = 1) : decodeBatchMode b = some .allOrNone := by
  rw [decodeBatchMode, h]
  rfl

theorem decodeBatchMode_range {b : Byte} (h : 1 < b.toNat) : decodeBatchMode b = none := by
  unfold decodeBatchMode
  split
  · omega
  · omega
  · rfl

theorem decodeTimingSource_lane {b : Byte} {n : Fin 8} (h : b.toNat = n.val) : decodeTimingSource b = some (.lane n) := by
  rw [decodeTimingSource, h, toIndex_val]

/-- A timing byte above the lanes names REF, IMMEDIATE or nothing (R180). -/
theorem decodeTimingSource_above {b : Byte} (h : 8 ≤ b.toNat) :
    decodeTimingSource b = if b.toNat = 8 then some .ref else if b.toNat = 9 then some .immediate else none := by
  rw [decodeTimingSource, toIndex_eq_none.2 h]
  simp only [← BitVec.toNat_inj, BitVec.toNat_ofNat, Nat.reducePow, Nat.reduceMod]

theorem decodeTimingSource_ref {b : Byte} (h : b.toNat = 8) : decodeTimingSource b = some .ref := by
  rw [decodeTimingSource_above h.ge, if_pos h]

theorem decodeTiming_immediate {timing : Byte} (h : timing.toNat = 9) (frames : Byte) :
    decodeTiming timing frames = some ⟨.immediate, 0, true⟩ := by
  rw [decodeTiming, decodeTimingSource_above (by omega), h]
  rfl

/-- A timing source that is counted takes the frame count it is given, from 1 to 16 (R10). -/
theorem decodeTiming_counted {timing frames : Byte} {src : TimingSource} (h : decodeTimingSource timing = some src)
    (hs : src ≠ .immediate) :
    decodeTiming timing frames =
      if 1 ≤ frames.toNat ∧ frames.toNat ≤ 16 then some ⟨src, frames.toNat, false⟩ else none := by
  rw [decodeTiming, h]
  cases src with
  | immediate => exact absurd rfl hs
  | lane n => rfl
  | ref => rfl

/-- The lanes and REF are counted. -/
theorem decodeTimingSource_counted {timing : Byte} (h : timing.toNat ≤ 8) :
    ∃ src, decodeTimingSource timing = some src ∧ src ≠ .immediate := by
  rcases Nat.lt_or_eq_of_le h with hl | hr
  · exact ⟨.lane ⟨timing.toNat, hl⟩, decodeTimingSource_lane rfl, nofun⟩
  · exact ⟨.ref, decodeTimingSource_ref hr, nofun⟩

/-- The timing bytes and frame counts that give no timing entry (R48). -/
theorem decodeTiming_range {timing frames : Byte}
    (h : 9 < timing.toNat ∨ timing.toNat ≤ 8 ∧ (frames.toNat = 0 ∨ 16 < frames.toNat)) : decodeTiming timing frames = none := by
  rcases h with h | ⟨ht, hf⟩
  · rw [decodeTiming, decodeTimingSource_above (by omega), if_neg (by omega), if_neg (by omega)]
  · obtain ⟨src, hsrc, himm⟩ := decodeTimingSource_counted ht
    rw [decodeTiming_counted hsrc himm, if_neg (by omega)]

/-! ## The checks (R48) -/

section
variable {es : EditStage} {slot timing frames mode : Byte}

theorem armBatch_noSlot (h : 4 ≤ slot.toNat) : armBatch es slot timing frames mode = (es, ⟨.range, []⟩) := by
  rw [armBatch, toIndex_eq_none.2 h]
  rfl

variable {i : Fin 4}

theorem armBatch_notOpen (hi : slot.toNat = i.val) (h : isOpened es.slots[i] = false) :
    armBatch es slot timing frames mode = (es, ⟨.notOpen, []⟩) := by
  rw [armBatch, hi, toIndex_val]
  cases hs : es.slots[i] with
  | opened list => rw [hs] at h; cases h
  | free => simp only [hs]; rfl
  | armed edits m t a => simp only [hs]; rfl
  | done r => simp only [hs]; rfl

variable {list : List ListedEdit}

theorem armBatch_range (hi : slot.toNat = i.val) (hs : es.slots[i] = .opened list)
    (h : decodeTiming timing frames = none ∨ decodeBatchMode mode = none) :
    armBatch es slot timing frames mode = (es, ⟨.range, []⟩) := by
  rw [armBatch, hi, toIndex_val]
  simp only [hs]
  rcases h with h | h
  · rw [h]; rfl
  · cases decodeTiming timing frames <;> rw [h] <;> rfl

variable {t : Timing} {m : BatchMode}

theorem armBatch_empty (hi : slot.toNat = i.val) (hs : es.slots[i] = .opened []) (ht : decodeTiming timing frames = some t)
    (hm : decodeBatchMode mode = some m) : armBatch es slot timing frames mode = (es, ⟨.empty, []⟩) := by
  rw [armBatch, hi, toIndex_val]
  simp only [hs, ht, hm]
  rfl

theorem armBatch_armed (hi : slot.toNat = i.val) (hs : es.slots[i] = .opened list) (ht : decodeTiming timing frames = some t)
    (hm : decodeBatchMode mode = some m) (hl : list ≠ []) :
    armBatch es slot timing frames mode = (armSlot es i list m t, ⟨.ok, [es.nextArming]⟩) := by
  have he : ¬ list.isEmpty = true := by simpa using hl
  rw [armBatch, hi, toIndex_val]
  simp only [hs, ht, hm, if_neg he]
  rfl

end

/-- An ARM_BATCH that the Edit Stage refuses is answered, and nothing else changes. -/
theorem answeredWith_armBatch {slot timing frames mode : Byte} {s : State} {r : Response}
    (h : HandedOver (.armBatch slot timing frames mode) s) (ha : armBatch s.edit slot timing frames mode = (s.edit, r)) :
    AnsweredWith (.armBatch slot timing frames mode) s r :=
  answeredWith_of_refused (exec_armBatch slot timing frames mode s) h (by simp only [ha])

/-- An ARM_BATCH leaves the Edit Stage that its checks give. -/
theorem takenWith_armBatch {slot timing frames mode : Byte} {s : State} {es : EditStage} {r : Response}
    (h : HandedOver (.armBatch slot timing frames mode) s) (ha : armBatch s.edit slot timing frames mode = (es, r)) :
    TakenWith (.armBatch slot timing frames mode) s { s with edit := es } r := by
  have ht := takenWith_of_request (exec_armBatch slot timing frames mode s) h
  simp only [ha] at ht
  exact ht

/-- The arming number after a number: 255 is followed by 0 (R42). -/
theorem nextArming_wraps (a : Byte) : a + 1#8 = if a = 255#8 then 0#8 else a + 1#8 := by
  split
  · next h => rw [h]; rfl
  · rfl

/-- Settles O24: each check's equation in its order, and at the end the slot armed. -/
theorem armBatchJudgesInOrder : Obligations.ArmBatchJudgesInOrder := by
  intro slot timing frames mode s h
  refine ⟨fun hslot => answeredWith_armBatch h (armBatch_noSlot hslot), fun i hi =>
    ⟨fun hopen => ?_, fun list hs => ⟨fun hbad => ?_, ?_⟩⟩⟩
  · exact answeredWith_armBatch h (armBatch_notOpen hi hopen)
  · refine answeredWith_armBatch h (armBatch_range hi hs ?_)
    rcases hbad with ht | hm | ht
    · exact .inl (decodeTiming_range (.inl ht))
    · exact .inr (decodeBatchMode_range hm)
    · exact .inl (decodeTiming_range (.inr ht))
  · intro t m hmode htiming
    have hm : decodeBatchMode mode = some m := by
      rcases hmode with ⟨hm, rfl⟩ | ⟨hm, rfl⟩
      · exact decodeBatchMode_each hm
      · exact decodeBatchMode_allOrNone hm
    have ht : decodeTiming timing frames = some t := by
      rcases htiming with ⟨ht, rfl⟩ | ⟨h1, h16, ⟨ht, rfl⟩ | ⟨n, hn, rfl⟩⟩
      · exact decodeTiming_immediate ht frames
      · rw [decodeTiming_counted (decodeTimingSource_ref ht) nofun, if_pos ⟨h1, h16⟩]
      · rw [decodeTiming_counted (decodeTimingSource_lane hn) nofun, if_pos ⟨h1, h16⟩]
    refine ⟨?_, fun hne =>
      ⟨_, takenWith_armBatch h (armBatch_armed hi hs ht hm hne), ?_, fun j hj => ?_, rfl, nextArming_wraps _⟩⟩
    · rintro rfl
      exact answeredWith_armBatch h (armBatch_empty hi hs ht hm)
    · exact bankSet_get_self _ _ _
    · exact bankSet_other _ _ hj

end Sys2Proof.Machine
end

section
/-!
BATCH_APPLY (R42, R49): the arming queue taken slot by slot. `DueApplied` says what has been done once some of its slots are taken.
-/
namespace Sys2Proof.Machine

/-! ## The table that the slots taken leave -/

section
variable {es : EditStage} (rt : RouteTable) (is : List (Fin 4)) {i : Fin 4}

theorem tableAfterSlots_due {edits : List ListedEdit} {m : BatchMode} {t : Timing} {a : Byte}
    (h : es.slots[i] = .armed edits m t a) (hd : t.due = true) :
    tableAfterSlots es rt (is ++ [i]) = (applyBatch (tableAfterSlots es rt is) edits m a).1 := by
  simp only [tableAfterSlots, List.foldl_append, List.foldl_cons, List.foldl_nil, h, hd, if_true]

theorem tableAfterSlots_not_due (h : isDue es.slots[i] = false) :
    tableAfterSlots es rt (is ++ [i]) = tableAfterSlots es rt is := by
  simp only [tableAfterSlots, List.foldl_append, List.foldl_cons, List.foldl_nil]
  cases hs : es.slots[i] with
  | armed edits m t a =>
    have hd : t.due = false := by rwa [hs] at h
    simp only [hd, Bool.false_eq_true, if_false]
  | free => rfl
  | opened edits => rfl
  | done r => rfl

end

theorem isDue_iff {b : BatchSlot} : isDue b = true ↔ ∃ edits m t a, b = .armed edits m t a ∧ t.due = true := by
  cases b <;> simp [isDue]

/-! ## The slots taken -/

/-- What step 2 has made of the tables once it has taken the slots `taken` of the queue: the due ones among them are applied, each on the
table the earlier ones left, and are DONE and out of the queue; all else is as it was (R42, R49). -/
structure DueApplied (rt : RouteTable) (es : EditStage) (taken : List (Fin 4)) (w : RouteTable × EditStage) : Prop where
  table   : w.1 = tableAfterSlots es rt taken
  arming  : w.2.nextArming = es.nextArming
  queue   : w.2.queue = es.queue.filter fun k => !(decide (k ∈ taken) && isDue es.slots[k])
  kept    : ∀ k : Fin 4, k ∉ taken ∨ isDue es.slots[k] = false → w.2.slots[k] = es.slots[k]
  applied : ∀ (before after : List (Fin 4)) (k : Fin 4) (edits : List ListedEdit) (m : BatchMode) (t : Timing) (a : Byte),
    taken = before ++ k :: after → es.slots[k] = .armed edits m t a → t.due = true →
    w.2.slots[k] = .done (applyBatch (tableAfterSlots es rt before) edits m a).2

section
variable {rt : RouteTable} {es : EditStage} {taken : List (Fin 4)} {w : RouteTable × EditStage} {i : Fin 4}

theorem dueApplied_nil (rt : RouteTable) (es : EditStage) : DueApplied rt es [] (rt, es) where
  table := rfl
  arming := rfl
  queue := by simp
  kept _ _ := rfl
  applied _ _ _ _ _ _ _ h := by simp at h

/-- An entry of a list with one more at its end is the last one, or stands in the list. -/
theorem split_snoc {α : Type} {xs before after : List α} {x k : α} (h : xs ++ [x] = before ++ k :: after) :
    (before = xs ∧ k = x) ∨ ∃ after', xs = before ++ k :: after' := by
  rcases List.eq_nil_or_concat after with rfl | ⟨after', y, rfl⟩
  · obtain ⟨hb, hk⟩ := List.append_inj' h rfl
    exact .inl ⟨hb.symm, by simpa using hk.symm⟩
  · rw [List.concat_eq_append, ← List.cons_append, ← List.append_assoc] at h
    exact .inr ⟨after', (List.append_inj' h rfl).1⟩

/-- A slot that is not due is passed over (R49). -/
theorem DueApplied.pass (h : DueApplied rt es taken w) (hi : i ∉ taken) (hd : isDue es.slots[i] = false) :
    DueApplied rt es (taken ++ [i]) (applySlot w i) := by
  have hslot : w.2.slots[i] = es.slots[i] := h.kept i (.inl hi)
  rw [applySlot_not_due (by rw [hslot, hd])]
  refine ⟨by rw [tableAfterSlots_not_due rt taken hd, h.table], h.arming, ?_, fun k hk => h.kept k ?_, ?_⟩
  · rw [h.queue]
    refine List.filter_congr fun k _ => ?_
    by_cases hk : k = i
    · rw [hk, hd, Bool.and_false, Bool.and_false]
    · simp [hk]
  · exact hk.imp (fun hk hm => hk (List.mem_append_left _ hm)) id
  · intro before after k edits m t a hsplit hs ht
    rcases split_snoc hsplit with ⟨-, rfl⟩ | ⟨after', htaken⟩
    · rw [hs, isDue, ht] at hd
      cases hd
    · exact h.applied before after' k edits m t a htaken hs ht

/-- A due slot is applied, becomes DONE and leaves the queue (R49). -/
theorem DueApplied.apply {edits : List ListedEdit} {m : BatchMode} {t : Timing} {a : Byte} (h : DueApplied rt es taken w)
    (hi : i ∉ taken) (hs : es.slots[i] = .armed edits m t a) (hd : t.due = true) :
    DueApplied rt es (taken ++ [i]) (applySlot w i) := by
  have hdue : isDue es.slots[i] = true := isDue_iff.2 ⟨edits, m, t, a, hs, hd⟩
  rw [applySlot_due ((h.kept i (.inl hi)).trans hs) hd]
  refine ⟨?_, h.arming, ?_, fun k hk => ?_, ?_⟩
  · rw [tableAfterSlots_due rt taken hs hd, h.table]
  · simp only [h.queue, List.filter_filter]
    refine List.filter_congr fun k _ => ?_
    by_cases hk : k = i
    · simpa [hk] using hdue
    · simp [hk]
  · have hki : k ≠ i := by
      rintro rfl
      rcases hk with hk | hk
      · exact hk (List.mem_append_right _ (List.mem_singleton_self k))
      · rw [hdue] at hk
        cases hk
    exact (bankSet_other _ _ hki).trans
      (h.kept k (hk.imp (fun hk hm => hk (List.mem_append_left _ hm)) id))
  · intro before after k edits' m' t' a' hsplit hs' ht'
    rcases split_snoc hsplit with ⟨rfl, rfl⟩ | ⟨after', htaken⟩
    · obtain ⟨rfl, rfl, rfl, rfl⟩ := BatchSlot.armed.inj (hs.symm.trans hs')
      rw [← h.table]
      exact bankSet_get_self _ _ _
    · have hki : k ≠ i := by
        rintro rfl
        exact hi (by simp [htaken])
      exact (bankSet_other _ _ hki).trans
        (h.applied before after' k edits' m' t' a' htaken hs' ht')

/-- The slots of a queue without repetitions, taken in order. -/
theorem dueApplied_foldl (rt : RouteTable) (es : EditStage) (h : taken.Nodup) :
    DueApplied rt es taken (taken.foldl applySlot (rt, es)) := by
  induction taken using List.reverseRecOn with
  | nil => exact dueApplied_nil rt es
  | append_singleton is i ih =>
    obtain ⟨hnd, -, hdisj⟩ := List.nodup_append.1 h
    have hi : i ∉ is := fun hm => hdisj i hm i (List.mem_singleton_self i) rfl
    rw [List.foldl_append, List.foldl_cons, List.foldl_nil]
    cases hd : isDue es.slots[i] with
    | false => exact (ih hnd).pass hi hd
    | true =>
      obtain ⟨edits, m, t, a, hs, ht⟩ := isDue_iff.1 hd
      exact (ih hnd).apply hi hs ht

end

/-- Settles O31: the whole queue has been taken. -/
theorem batchApplyAppliesTheDueSlots : Obligations.BatchApplyAppliesTheDueSlots := by
  intro s hr hok
  have h : DueApplied s.route s.edit s.edit.queue (applyDue s.route s.edit) := dueApplied_foldl _ _ hok.once
  have hdone : DoneWith .batchApply s (batchApplyStep s) := doneWith_of_event (exec_batchApply s) hr
  refine ⟨(applyDue s.route s.edit).2, ?_, h.arming, ?_, fun i hi => h.kept i (.inr hi), ?_⟩
  · rw [← h.table]
    exact hdone
  · rw [h.queue]
    refine List.filter_congr fun k hk => ?_
    rw [decide_eq_true hk, Bool.true_and]
  · intro before after i edits m t a
    exact h.applied before after i edits m t a

end Sys2Proof.Machine
end

section
/-!
What a command can do to the Edit Stage: which commands leave it alone, and that a batch ARMED before and after a command that is no switch
point stays as it is (R10, R42).
-/
namespace Sys2Proof.Machine

variable {s t : State}

/-! ## The shared operations -/

section
variable {c : Instr} {es : EditStage}

theorem takeEvent_edit {work : State → State} (arm : exec c s = takeEvent s work) (hw : (work s).edit = es)
    (h : exec c s = .next t) : t.edit = s.edit ∨ t.edit = es := by
  rcases takeEvent_cases (arm.symm.trans h) with ⟨-, rfl⟩ | ⟨-, rfl⟩
  · exact .inl rfl
  · exact .inr ((settle_edit _ _).trans hw)

theorem takeWellFormed_edit {ok : Bool} {work : State → State} (arm : exec c s = takeWellFormed ok s work)
    (hw : (work s).edit = es) (h : exec c s = .next t) : t.edit = s.edit ∨ t.edit = es := by
  rcases takeWellFormed_cases (arm.symm.trans h) with ⟨-, ⟨-, rfl⟩ | ⟨-, rfl⟩⟩
  · exact .inl rfl
  · exact .inr ((settle_edit _ _).trans hw)

/-- A request's block acts on the Edit Stage as it was, or the request is not taken. -/
theorem takeRequest_edit {act : State → State × Response} (arm : exec c s = takeRequest c s act)
    (hact : ∀ l k, (act { s with link := l, freeCount := k }).1.edit = es) (h : exec c s = .next t) :
    t.edit = s.edit ∨ t.edit = es := by
  obtain ⟨l, k, ho⟩ := handOver_frame c s
  rcases takeRequest_cases (arm.symm.trans h) with ⟨-, rfl⟩ | ⟨-, -, rfl⟩ | ⟨-, -, rfl⟩
  · exact .inl rfl
  · exact .inl (by rw [settle_edit, ho])
  · exact .inr (by rw [settle_edit, respond_edit, ho, hact])

theorem takeEvent_keeps_edit {work : State → State} (arm : exec c s = takeEvent s work) (hw : (work s).edit = s.edit)
    (h : exec c s = .next t) : t.edit = s.edit :=
  (takeEvent_edit arm hw h).elim id id

theorem takeRequest_keeps_edit {act : State → State × Response} (arm : exec c s = takeRequest c s act)
    (hact : ∀ l k, (act { s with link := l, freeCount := k }).1.edit = s.edit) (h : exec c s = .next t) : t.edit = s.edit :=
  (takeRequest_edit arm hact h).elim id id

theorem takeRead_keeps_edit {answer : State → Response} (arm : exec c s = takeRead c s answer) (h : exec c s = .next t) :
    t.edit = s.edit :=
  takeRequest_keeps_edit arm (fun _ _ => rfl) h

end

/-! ## The works that leave the Edit Stage alone -/

theorem requestTransaction_edit (bytes : List Byte) (s : State) : (requestTransaction bytes s).edit = s.edit := by
  obtain ⟨l, c, h⟩ := requestTransaction_frame bytes s
  rw [h]

theorem fetchTransaction_edit (clocked : Nat) (s : State) : (fetchTransaction clocked s).edit = s.edit := by
  obtain ⟨l, c, h⟩ := fetchTransaction_frame clocked s
  rw [h]

theorem voidTransaction_edit (bytes : List Byte) (s : State) : (voidTransaction bytes s).edit = s.edit := by
  obtain ⟨l, c, h⟩ := voidTransaction_frame bytes s
  rw [h]

theorem restartLaneNumbered_edit (s : State) (lane : Byte) : (restartLaneNumbered s lane).1.edit = s.edit := by
  unfold restartLaneNumbered
  split
  · rfl
  · exact restartLane_edit _ _

theorem setDesk_edit (s : State) (dir port : Byte) (on : Bool) : (setDesk s dir port on).1.edit = s.edit := by
  unfold setDesk
  repeat' split
  all_goals rfl

theorem pollAlert_edit (s : State) : (pollAlert s).1.edit = s.edit := by
  unfold pollAlert
  split
  · exact setInService_edit _ _ _
  · rfl

theorem ackAlert_edit (s : State) (cls : Byte) : (ackAlert s cls).1.edit = s.edit := by
  unfold ackAlert
  repeat' split
  all_goals rfl

theorem setAlert_edit (s : State) (masks mode lowest style width : Byte) :
    (setAlert s masks mode lowest style width).1.edit = s.edit := by
  unfold setAlert
  split
  · exact putAlert_edit _ _ _ _ _ _
  · rfl

theorem enterQuiet_edit (n : Fin 192) (s : State) : (enterQuiet n s).edit = s.edit := by
  unfold enterQuiet
  dsimp only
  split <;> rfl

theorem workOne_if_edit (cond : Bool) (n : Fin 192) (s : State) : (if cond then workOne n s else s).edit = s.edit := by
  split
  · exact workOne_edit n s
  · rfl

/-- The commands whose work reaches the Edit Stage (chapter 3). -/
def reachesEdit (c : Instr) : Bool :=
  match c with
  | .sampleTick _ | .refFramePulse | .inputLineEvent _ _ _ | .deviceReset _ | .openBatch | .addEdit _ _ | .armBatch _ _ _ _
  | .releaseBatch _ | .cancelBatch _ | .clearAllExecute | .batchApply | .batchDue _ => true
  | _ => false

/-- Every other command leaves the Edit Stage as it is. -/
theorem exec_edit {c : Instr} (hc : reachesEdit c = false) (h : exec c s = .next t) : t.edit = s.edit := by
  cases c with
  | sampleTick | refFramePulse | inputLineEvent | deviceReset | openBatch | addEdit | armBatch | releaseBatch | cancelBatch
  | clearAllExecute | batchApply | batchDue => cases hc
  | resetRelease csLow =>
    obtain rfl := Host.Outcome.next.inj ((exec_resetRelease csLow s).symm.trans h)
    split
    · exact releaseReset_edit _ _
    · rfl
  | request bytes => exact takeEvent_keeps_edit (exec_request bytes s) (requestTransaction_edit bytes s) h
  | fetch clocked => exact takeEvent_keeps_edit (exec_fetch clocked s) (fetchTransaction_edit clocked s) h
  | voidTransaction bytes => exact (takeWellFormed_edit (exec_voidTransaction bytes s) (voidTransaction_edit bytes s) h).elim id id
  | readRoute hd => exact takeRead_keeps_edit (exec_readRoute hd s) h
  | findDest d => exact takeRead_keeps_edit (exec_findDest d s) h
  | listSource src st => exact takeRead_keeps_edit (exec_listSource src st s) h
  | readNotices st => exact takeRead_keeps_edit (exec_readNotices st s) h
  | readMeters side first count => exact takeRead_keeps_edit (exec_readMeters side first count s) h
  | readResult slot => exact takeRead_keeps_edit (exec_readResult slot s) h
  | readSourceChanges st => exact takeRead_keeps_edit (exec_readSourceChanges st s) h
  | status => exact takeRequest_keeps_edit (exec_status s) (fun _ _ => rfl) h
  | clearClip hd => exact takeRequest_keeps_edit (exec_clearClip hd s) (fun _ _ => rfl) h
  | ackNotices count es => exact takeRequest_keeps_edit (exec_ackNotices count es s) (fun _ _ => rfl) h
  | setGuards mask => exact takeRequest_keeps_edit (exec_setGuards mask s) (fun _ _ => rfl) h
  | clearAll force => exact takeRequest_keeps_edit (exec_clearAll force s) (fun _ _ => rfl) h
  | readSource src clear => exact takeRequest_keeps_edit (exec_readSource src clear s) (fun _ _ => rfl) h
  | setMonitor l q f le qe => exact takeRequest_keeps_edit (exec_setMonitor l q f le qe s) (fun _ _ => rfl) h
  | setChangeEnables e => exact takeRequest_keeps_edit (exec_setChangeEnables e s) (fun _ _ => rfl) h
  | ackSources count ss => exact takeRequest_keeps_edit (exec_ackSources count ss s) (fun _ _ => rfl) h
  | readLane n clear => exact takeRequest_keeps_edit (exec_readLane n clear s) (fun _ _ => rfl) h
  | setLane n sl k b m lo => exact takeRequest_keeps_edit (exec_setLane n sl k b m lo s) (fun _ _ => rfl) h
  | ackLanes mask => exact takeRequest_keeps_edit (exec_ackLanes mask s) (fun _ _ => rfl) h
  | restartLane n => exact takeRequest_keeps_edit (exec_restartLane n s) (fun _ _ => restartLaneNumbered_edit _ n) h
  | setDesk dir port on => exact takeRequest_keeps_edit (exec_setDesk dir port on s) (fun _ _ => setDesk_edit _ dir port on) h
  | pollAlert => exact takeRequest_keeps_edit (exec_pollAlert s) (fun _ _ => pollAlert_edit _) h
  | ackAlert cls => exact takeRequest_keeps_edit (exec_ackAlert cls s) (fun _ _ => ackAlert_edit _ cls) h
  | setAlert ms m lo st w =>
    exact takeRequest_keeps_edit (exec_setAlert ms m lo st w s) (fun _ _ => setAlert_edit _ ms m lo st w) h
  | failoverTrigger n kind => exact takeEvent_keeps_edit (exec_failoverTrigger n kind s) rfl h
  | rampEnd i => exact takeEvent_keeps_edit (exec_rampEnd i s) rfl h
  | retireRampEnd i => exact takeEvent_keeps_edit (exec_retireRampEnd i s) rfl h
  | sourceRunning n => exact takeEvent_keeps_edit (exec_sourceRunning n s) (workOne_if_edit _ n s) h
  | closeMarkTaken n => exact takeEvent_keeps_edit (exec_closeMarkTaken n s) (workOne_if_edit _ n s) h
  | lossTimerExpiry n => exact takeEvent_keeps_edit (exec_lossTimerExpiry n s) (workOne_if_edit _ n s) h
  | presenceTimeout n => exact takeEvent_keeps_edit (exec_presenceTimeout n s) rfl h
  | pulseEnd => exact takeEvent_keeps_edit (exec_pulseEnd s) rfl h
  | quietEntered n => exact takeEvent_keeps_edit (exec_quietEntered n s) (enterQuiet_edit n s) h
  | setLaneInForce n => exact takeEvent_keeps_edit (exec_setLaneInForce n s) rfl h
  | closePacketGrant n j => exact takeEvent_keeps_edit (exec_closePacketGrant n j s) rfl h
  | deskFrameInProgressCompleted fs => exact (takeWellFormed_edit (exec_deskFrameInProgressCompleted fs s) rfl h).elim id id

/-! ## Batches that stay ARMED -/

/-- Every slot that is ARMED before and after is the same. -/
def ArmedKept (es es' : EditStage) : Prop :=
  ∀ k : Fin 4, isArmed es.slots[k] = true → isArmed es'.slots[k] = true → es'.slots[k] = es.slots[k]

variable {es : EditStage}

theorem armedKept_refl (es : EditStage) : ArmedKept es es := fun _ _ _ => rfl

/-- Slots that are the same or no longer ARMED. -/
theorem armedKept_of_disarmed {es' : EditStage}
    (h : ∀ k : Fin 4, es'.slots[k] = es.slots[k] ∨ isArmed es'.slots[k] = false) : ArmedKept es es' := by
  intro k _ ha
  rcases h k with hk | hk
  · exact hk
  · rw [hk] at ha
    cases ha

/-- One slot replaced, where it was not ARMED or is not any more. -/
theorem armedKept_of_bankSet {es' : EditStage} {i : Fin 4} {b : BatchSlot} (hs : es'.slots = bankSet es.slots i b)
    (h : isArmed es.slots[i] = false ∨ isArmed b = false) : ArmedKept es es' := by
  intro k ha ha'
  by_cases hk : k = i
  · subst hk
    have hb : es'.slots[k] = b := by rw [hs]; exact bankSet_get_self _ _ _
    rcases h with h | h
    · rw [h] at ha; cases ha
    · rw [hb, h] at ha'; cases ha'
  · rw [hs]
    exact bankSet_other _ _ hk

theorem armedKept_openBatch (es : EditStage) : ArmedKept es (openBatch es).1 := by
  unfold openBatch
  split
  · exact armedKept_refl es
  · split
    · exact armedKept_of_bankSet rfl (.inr rfl)
    · exact armedKept_refl es

theorem armedKept_addEdit (rt : RouteTable) (es : EditStage) (slot : Byte) (f : EditFields) :
    ArmedKept es (addEdit rt es slot f).1 := by
  unfold addEdit
  split
  · exact armedKept_refl es
  · split
    · split
      · exact armedKept_refl es
      · exact armedKept_of_bankSet rfl (.inr rfl)
    all_goals exact armedKept_refl es

theorem armedKept_armBatch (es : EditStage) (slot timing frames mode : Byte) :
    ArmedKept es (armBatch es slot timing frames mode).1 := by
  unfold armBatch
  split
  · exact armedKept_refl es
  · split
    · next list hs =>
      split
      · split
        · exact armedKept_refl es
        · exact armedKept_of_bankSet rfl (.inl (by rw [hs]; rfl))
      · exact armedKept_refl es
    all_goals exact armedKept_refl es

theorem armedKept_releaseBatch (es : EditStage) (slot : Byte) : ArmedKept es (releaseBatch es slot).1 := by
  unfold releaseBatch
  split
  · exact armedKept_refl es
  · split
    any_goals exact armedKept_of_bankSet rfl (.inr rfl)
    all_goals exact armedKept_refl es

theorem armedKept_cancelBatch (es : EditStage) (slot : Byte) : ArmedKept es (cancelBatch es slot).1 := by
  unfold cancelBatch
  split
  · exact armedKept_refl es
  · split
    any_goals exact armedKept_of_bankSet rfl (.inr rfl)
    all_goals exact armedKept_refl es

/-- A CLEAR_ALL carried out leaves a slot as it is or FREE (R62). -/
theorem carryOutClearAll_slot (rt : RouteTable) (es : EditStage) (k : Fin 4) :
    (carryOutClearAll rt es).2.slots[k] = es.slots[k] ∨ isArmed (carryOutClearAll rt es).2.slots[k] = false := by
  unfold carryOutClearAll
  split
  · exact .inl rfl
  · simp only [clearBatches_slots, Fin.getElem_fin, bankMap_get]
    cases es.slots[k.val] with
    | free | done => exact .inl rfl
    | opened | armed => exact .inr rfl

theorem applySlot_slot (w : RouteTable × EditStage) (i k : Fin 4) :
    (applySlot w i).2.slots[k] = w.2.slots[k] ∨ isArmed (applySlot w i).2.slots[k] = false := by
  cases hd : isDue w.2.slots[i] with
  | false => exact .inl (by rw [applySlot_not_due hd])
  | true =>
    obtain ⟨edits, m, t, a, hs, ht⟩ := isDue_iff.1 hd
    rw [applySlot_due hs ht]
    simp only [Fin.getElem_fin, bankSet_get]
    split
    · exact .inr rfl
    · exact .inl rfl

/-- Step 2 leaves a slot as it is or DONE (R49). -/
theorem applyDue_slot (rt : RouteTable) (es : EditStage) (k : Fin 4) :
    (applyDue rt es).2.slots[k] = es.slots[k] ∨ isArmed (applyDue rt es).2.slots[k] = false := by
  unfold applyDue
  generalize es.queue = is
  generalize hw : (rt, es) = w
  obtain rfl : w.2 = es := by rw [← hw]
  clear hw
  induction is generalizing w with
  | nil => exact .inl rfl
  | cons i is ih =>
    rcases ih (applySlot w i) with h | h
    · rw [List.foldl_cons, h]
      exact applySlot_slot w i k
    · exact .inr h

/-- Steps 1 and 2 of a tick leave a slot as it is, FREE or DONE. -/
theorem armedKept_routeTick (sources : Vector Source 192) (rt : RouteTable) (es : EditStage) :
    ArmedKept es (routeTick sources rt es).2 := by
  refine armedKept_of_disarmed fun k => ?_
  rcases applyDue_slot (carryOutClearAll rt es).1 (carryOutClearAll rt es).2 k with h | h
  · have hk := carryOutClearAll_slot rt es k
    rwa [← h] at hk
  · exact .inr h

theorem deviceReset_edit (recognised : Bool) (s : State) :
    (if recognised then resetState s else shortReset s).edit = s.edit ∨
      (if recognised then resetState s else shortReset s).edit = resetEdit := by
  split
  · exact .inr (resetState_edit s)
  · unfold shortReset
    dsimp only
    split
    · exact .inr (resetState_edit _)
    · exact .inl rfl

/-- No command but a switch point changes a batch that stays ARMED; BATCH_DUE changes its own slot alone (R10). -/
theorem exec_keeps_armed {c : Instr} {i : Fin 4} (h : exec c s = .next t) (href : c ≠ .refFramePulse)
    (hline : ∀ n line words, c ≠ .inputLineEvent n line words) (hdue : c ≠ .batchDue i) (ha : isArmed s.edit.slots[i] = true)
    (ha' : isArmed t.edit.slots[i] = true) : t.edit.slots[i] = s.edit.slots[i] := by
  have keep {es : EditStage} (ho : t.edit = s.edit ∨ t.edit = es) (hk : ArmedKept s.edit es) :
      t.edit.slots[i] = s.edit.slots[i] := by
    rcases ho with he | he
    · rw [he]
    · rw [he] at ha' ⊢
      exact hk i ha ha'
  cases c with
  | refFramePulse => exact absurd rfl href
  | inputLineEvent n line words => exact absurd rfl (hline n line words)
  | sampleTick desk => exact keep (takeWellFormed_edit (exec_sampleTick desk s) (tick_edit desk s) h) (armedKept_routeTick _ _ _)
  | deviceReset recognised =>
    obtain rfl := Host.Outcome.next.inj ((exec_deviceReset recognised s).symm.trans h)
    exact keep (deviceReset_edit recognised s) (armedKept_of_disarmed fun k => .inr (by simp [resetEdit, isArmed]))
  | openBatch => exact keep (takeRequest_edit (exec_openBatch s) (fun _ _ => rfl) h) (armedKept_openBatch _)
  | addEdit slot f =>
    exact keep (takeRequest_edit (exec_addEdit slot f s) (fun _ _ => rfl) h) (armedKept_addEdit s.route _ slot f)
  | armBatch slot ti fr mo =>
    exact keep (takeRequest_edit (exec_armBatch slot ti fr mo s) (fun _ _ => rfl) h) (armedKept_armBatch _ slot ti fr mo)
  | releaseBatch slot =>
    exact keep (takeRequest_edit (exec_releaseBatch slot s) (fun _ _ => rfl) h) (armedKept_releaseBatch _ slot)
  | cancelBatch slot =>
    exact keep (takeRequest_edit (exec_cancelBatch slot s) (fun _ _ => rfl) h) (armedKept_cancelBatch _ slot)
  | clearAllExecute =>
    exact keep (takeEvent_edit (exec_clearAllExecute s) (clearAllStep_edit s) h)
      (armedKept_of_disarmed (carryOutClearAll_slot _ _))
  | batchApply =>
    exact keep (takeEvent_edit (exec_batchApply s) (batchApplyStep_edit s) h) (armedKept_of_disarmed (applyDue_slot _ _))
  | batchDue j =>
    have hj : i ≠ j := fun e => hdue (by rw [e])
    rcases takeEvent_edit (exec_batchDue j s) rfl h with he | he
    · rw [he]
    · rw [he]
      exact bankModify_other _ _ hj
  | _ => rw [exec_edit rfl h]

end Sys2Proof.Machine
end

section
/-!
Switch points (R7 to R10, R12): the two events that count batches down, and the count of one slot alone.
-/
namespace Sys2Proof.Machine

/-- The settings a lane works with in a line event: a pending SET_LANE is already in force (R131). -/
theorem laneAtLine_settings (lane : Lane) : (laneAtLine lane).settings = lane.pendingSettings.getD lane.settings := by
  rw [laneAtLine, becomePresent_settings]
  cases h : lane.pendingSettings with
  | none => rw [bringSettings_none h]; rfl
  | some st => rw [bringSettings_some h]; rfl

theorem lineSwitchPoint_switch {n : Fin 8} {line : Nat} {lane : Lane}
    (h : line = (lane.pendingSettings.getD lane.settings).switchLine) (es : EditStage) :
    lineSwitchPoint n line (laneAtLine lane) es = switchPoint (.lane n) es := by
  rw [lineSwitchPoint, laneAtLine_settings, if_pos h]

theorem lineSwitchPoint_other {n : Fin 8} {line : Nat} {lane : Lane}
    (h : line ≠ (lane.pendingSettings.getD lane.settings).switchLine) (es : EditStage) :
    lineSwitchPoint n line (laneAtLine lane) es = es := by
  rw [lineSwitchPoint, laneAtLine_settings, if_neg h]

theorem doneWith_refFramePulse {s : State} (h : s.rstLow = false) : DoneWith .refFramePulse s (referencePulse s) :=
  doneWith_of_event (exec_refFramePulse s) h

theorem doneWith_inputLineEvent {s : State} {line : Nat} (n : Fin 8) (words : List Word) (h : s.rstLow = false)
    (hl : line ≤ 2047) : DoneWith (.inputLineEvent n line words) s (lineEvent n line words s) :=
  doneWith_of_wellFormed (exec_inputLineEvent n line words s) (decide_eq_true hl) h

theorem doneWith_batchDue {s : State} (i : Fin 4) (h : s.rstLow = false) :
    DoneWith (.batchDue i) s { s with edit := { s.edit with slots := bankModify s.edit.slots i becomeDue } } :=
  doneWith_of_event (exec_batchDue i s) h

/-- A switch point counts the timing entry of a batch of its own source (R10). -/
theorem countSlot_armed (src : TimingSource) (edits : List ListedEdit) (m : BatchMode) (t : Timing) (a : Byte) :
    countSlot src (.armed edits m t a) = .armed edits m (if t.source = src then countTiming t else t) a := by
  unfold countSlot
  dsimp only
  split <;> rfl

/-- A sound count of 1 becomes due (R10). -/
theorem becomeDue_last {edits : List ListedEdit} {m : BatchMode} {t : Timing} {a : Byte}
    (hok : BatchSlotOk (.armed edits m t a)) (h : t.remaining = 1) :
    becomeDue (.armed edits m t a) = .armed edits m ⟨t.source, 0, true⟩ a := by
  obtain ⟨-, -, -, hdue, -⟩ := hok
  have hd : ¬ t.due = true := fun hd => by simp [hdue.1 hd] at h
  simp [becomeDue, countTiming, h, hd]

/-- A sound slot with no count of 1 is left alone: its count is higher, or it is due already (R10). -/
theorem becomeDue_other {b : BatchSlot} (hok : BatchSlotOk b)
    (h : ∀ edits m t a, b = .armed edits m t a → t.remaining ≠ 1) : becomeDue b = b := by
  cases b with
  | free | opened | done => rfl
  | armed edits m t a =>
    obtain ⟨-, -, -, hdue, -⟩ := hok
    have h1 : t.remaining ≠ 1 := h edits m t a rfl
    unfold becomeDue
    dsimp only
    split
    · next hle =>
      rw [countTiming, if_pos (hdue.2 (by omega))]
    · rfl

/-- Settles O33: the switch points, the frame of every other command, and the count of one slot. -/
theorem switchPointsCountBatchesDown : Obligations.SwitchPointsCountBatchesDown := by
  refine ⟨fun s src e hr he => ?_, fun s n line words hr hl hline => ?_, fun c s t i h => exec_keeps_armed h,
    fun s i hr hok => ⟨?_, ?_⟩⟩
  · have hswitch : ∃ t, exec e s = .next t ∧ t.edit = switchPoint src s.edit := by
      rcases he with ⟨rfl, rfl⟩ | ⟨n, line, words, rfl, hl, rfl, hline⟩
      · exact ⟨_, doneWith_refFramePulse hr, settle_edit _ _⟩
      · exact ⟨_, doneWith_inputLineEvent n words hr hl, by rw [settle_edit, lineEvent_edit, lineSwitchPoint_switch hline]⟩
    obtain ⟨t, ht, hedit⟩ := hswitch
    refine ⟨t, ht, by rw [hedit, switchPoint_queue], by rw [hedit, switchPoint_nextArming], fun i => ?_⟩
    simp only [hedit, switchPoint_slots, Fin.getElem_fin, bankMap_get]
    cases s.edit.slots[i.val] with
    | armed edits m tm a => exact countSlot_armed src edits m tm a
    | free | opened | done => rfl
  · exact ⟨_, doneWith_inputLineEvent n words hr hl, by rw [settle_edit, lineEvent_edit, lineSwitchPoint_other hline]⟩
  · intro edits m tm a hs h1
    refine ⟨_, doneWith_batchDue i hr, rfl, ?_, fun j hj => ?_⟩
    · rw [hs] at hok
      exact (bankModify_get_self _ _ _).trans ((congrArg becomeDue hs).trans (becomeDue_last hok h1))
    · exact bankModify_other _ _ hj
  · intro h
    refine exec_eq_self_of_doneWith (doneWith_batchDue i hr) ?_
    rw [bankModify_id_of (becomeDue_other hok h)]

end Sys2Proof.Machine
end

section
/-!
SAMPLE_TICK at the Lane Engines, the Desk Ports, the Alert Controller and the link (R6, 1.3.1): each block uses what the others left at the
tick before, so each is read off the state before the tick.
-/
namespace Sys2Proof.Machine

/-! ## The alert pulse (R159) -/

theorem pulseTick_eq (a : AlertController) :
    pulseTick a = { a with pulse := match a.pulse with
      | none => none
      | some c => if c ≤ 1 then none else some (c - 1) } := by
  unfold pulseTick
  cases h : a.pulse with
  | none => cases a; cases h; rfl
  | some c => rfl

/-! ## Output bundles (R135, R136) -/

theorem trackA_eq {n j : Fin 8} {a : Fin 192} (h : a.val = n.val * 16 + j.val * 2) : trackA n j = a := Fin.ext h.symm

theorem trackB_eq {n j : Fin 8} {b : Fin 192} (h : b.val = n.val * 16 + j.val * 2 + 1) : trackB n j = b := Fin.ext h.symm

/-- The map names neither track of the bundle (R135). -/
theorem isRouted_false {destMap : Vector (Option (Fin 160)) 192} {n j : Fin 8} :
    isRouted destMap n j = false ↔ destMap[trackA n j] = none ∧ destMap[trackB n j] = none := by
  simp [isRouted]

theorem judgeActivity_unrouted (a : Activity) : judgeActivity a false = if a = .inactive then .inactive else .closing := by
  cases a <;> rfl

theorem bundleTick_unrouted (f : Frame) (b : OutBundle) :
    bundleTick false f b = { b with activity := if b.activity = .inactive then .inactive else .closing } := by
  have h : judgeActivity b.activity false ≠ .active := by
    rw [judgeActivity_unrouted]
    split <;> nofun
  rw [bundleTick]
  dsimp only
  rw [if_neg h, judgeActivity_unrouted]

theorem bundleTick_routed (f : Frame) (b : OutBundle) :
    bundleTick true f b =
      if b.fifo.length < 16 then { b with activity := .active, fifo := b.fifo ++ [f] }
      else { b with activity := .active, overflow := min (b.overflow + 1) 65535 } := rfl

/-! ## Lanes (R117, R118, R127) -/

/-- A PRESENT lane counts the ticks up to the 239th (R117). -/
theorem presenceTick_counts {l : Lane} {c : Nat} (h : l.presence = .present c) (hc : c + 1 < 240) :
    presenceTick l = { l with presence := .present (c + 1) } := by
  rw [presenceTick_present h]
  exact if_neg (not_le.2 hc)

/-- The 240th tick makes a PRESENT lane ABSENT (R117). -/
theorem presenceTick_ends {l : Lane} {c : Nat} (h : l.presence = .present c) (hc : 240 ≤ c + 1) :
    presenceTick l = { l with presence := .absent, changeFlag := true } := by
  rw [presenceTick_present h]
  exact if_pos hc

/-- A lane after a tick: its presence judged, its bundles judged and pushed, the references of ended feeds gone. -/
theorem tick_lane (desk : List DeskArrival) (s : State) (n : Fin 8) :
    (tick desk s).lanes[n] =
      { s.lanes[n] with
        presence   := (presenceTick s.lanes[n]).presence
        changeFlag := (presenceTick s.lanes[n]).changeFlag
        inBundles  := bankMapIdx (resetReference (worksAtTick desk s) n) s.lanes[n].inBundles
        outBundles := (laneTick s.route n s.lanes[n]).outBundles } := by
  rw [tick_lanes]
  simp only [Fin.getElem_fin, bankMapIdx_get]
  unfold resetReferences laneTick presenceTick
  cases s.lanes[n.val].presence with
  | absent => rfl
  | present c => dsimp only; split <;> rfl

theorem tick_outBundle (desk : List DeskArrival) (s : State) (n j : Fin 8) :
    (tick desk s).lanes[n].outBundles[j] =
      bundleTick (isRouted s.route.destMap n j) ⟨s.route.destSamples[trackA n j], s.route.destSamples[trackB n j]⟩
        s.lanes[n].outBundles[j] := by
  rw [tick_lane]
  exact bankMapIdx_get _ _ _ _

theorem tick_inBundle (desk : List DeskArrival) (s : State) (n j : Fin 8) :
    (tick desk s).lanes[n].inBundles[j] = resetReference (worksAtTick desk s) n j s.lanes[n].inBundles[j] := by
  rw [tick_lane]
  exact bankMapIdx_get _ _ _ _

theorem takeEntry_becameIdle (st : MonitorSettings) (src : Source) :
    (takeEntry st src).becameIdle = true ↔ src.fifo.head? = some .closeMark := by
  unfold takeEntry
  split <;> simp_all

theorem waitWork_becameIdle (st : MonitorSettings) (src : Source) : (waitWork st src).becameIdle = false := by
  unfold waitWork starve
  dsimp only
  repeat' split
  all_goals rfl

theorem leaveWaiting_fifo (st : MonitorSettings) (src : Source) : (leaveWaiting st src).fifo = src.fifo := by
  unfold leaveWaiting
  dsimp only
  split <;> rfl

/-- A source's work makes it IDLE exactly when its feed ends (R99, R100, R127). -/
theorem becameIdle_iff (st : MonitorSettings) (src : Source) : (sourceWork st src).becameIdle = true ↔ FeedEnds src := by
  by_cases ht : TakesHead src
  · have hends : FeedEnds src ↔ src.fifo.head? = some .closeMark := by
      refine ⟨fun h => h.elim And.right fun ⟨hw, hl, _⟩ => ?_, fun h => .inl ⟨ht, h⟩⟩
      rcases ht with hr | ⟨-, hp⟩
      · simp [Waits, hr] at hw
      · omega
    rw [hends]
    rcases ht with hr | ⟨hw, hp⟩
    · rw [sourceWork_running hr, takeEntry_becameIdle]
    · rw [sourceWork_primed ((isWaiting_iff src).2 hw) ((isPrimed_iff src).2 hp), takeEntry_becameIdle, leaveWaiting_fifo]
  · by_cases hf : FeedEnds src
    · obtain ⟨hw, hl, hm⟩ := hf.resolve_left fun h => ht h.1
      have hp : isPrimed src = false := by
        rw [← Bool.not_eq_true, isPrimed_iff]
        omega
      rw [sourceWork_closed ((isWaiting_iff src).2 hw) hp ((holdsClose_iff src).2 hm)]
      exact iff_of_true rfl hf
    · rw [sourceWork_rests ht hf, waitWork_becameIdle]
      exact iff_of_false Bool.false_ne_true hf

/-- A source of a lane finds no desk push at a tick (R1, R104). -/
theorem pushDesk_laneSource (d : Desk) (arrived : List DeskArrival) (first : Bool) (sources : Vector Source 192) {a : Fin 192}
    (h : a.val < 128) : (pushDesk d arrived first sources)[a] = sources[a] := by
  have hp : deskPortOf a = none := dif_neg (by omega)
  unfold pushDesk
  simp only [Fin.getElem_fin, bankMapIdx_get, Fin.eta, hp]

theorem worksAtTick_laneSource (desk : List DeskArrival) (s : State) {a : Fin 192} (h : a.val < 128) :
    (worksAtTick desk s)[a] = sourceWork s.monitor.settings s.monitor.sources[a] := by
  rw [← pushDesk_laneSource s.desk desk true s.monitor.sources h]
  exact bankMap_get _ _ _ _

/-- The feed of a lane's source ends at a tick as the previous tick and the pushes since left the source (R127). -/
theorem worksAtTick_becameIdle (desk : List DeskArrival) (s : State) {a : Fin 192} (h : a.val < 128) :
    (worksAtTick desk s)[a].becameIdle = true ↔ FeedEnds s.monitor.sources[a] := by
  rw [worksAtTick_laneSource desk s h, becameIdle_iff]

theorem tick_inBundle_ends (desk : List DeskArrival) (s : State) (n j : Fin 8)
    (h : FeedEnds s.monitor.sources[trackA n j] ∨ FeedEnds s.monitor.sources[trackB n j]) :
    (tick desk s).lanes[n].inBundles[j] = { s.lanes[n].inBundles[j] with seqRef := none } := by
  rw [← worksAtTick_becameIdle desk s (by simp only [trackA]; omega),
    ← worksAtTick_becameIdle desk s (by simp only [trackB]; omega), ← Bool.or_eq_true] at h
  rw [tick_inBundle, resetReference, if_pos h]

theorem tick_inBundle_goes_on (desk : List DeskArrival) (s : State) (n j : Fin 8) (ha : ¬ FeedEnds s.monitor.sources[trackA n j])
    (hb : ¬ FeedEnds s.monitor.sources[trackB n j]) : (tick desk s).lanes[n].inBundles[j] = s.lanes[n].inBundles[j] := by
  rw [← worksAtTick_becameIdle desk s (by simp only [trackA]; omega)] at ha
  rw [← worksAtTick_becameIdle desk s (by simp only [trackB]; omega)] at hb
  rw [tick_inBundle, resetReference, if_neg]
  rw [Bool.or_eq_true, not_or]
  exact ⟨ha, hb⟩

/-! ## Desk ports (R104, R152) -/

theorem tick_deskIn (desk : List DeskArrival) (s : State) (p : Fin 4) :
    (tick desk s).desk.ins[p] = ⟨s.desk.ins[p].enabled, if s.desk.ins[p].enabled then .shifting else .nothing⟩ := by
  rw [tick_desk]
  exact bankMap_get _ _ _ _

theorem tick_deskOut (desk : List DeskArrival) (s : State) (p : Fin 4) :
    (tick desk s).desk.outs[p] = beginOutFrame s.route.destSamples p s.desk.outs[p] := by
  rw [tick_desk]
  exact bankMapIdx_get _ _ _ _

theorem beginOutFrame_slot (samples : Vector Sample 192) (p : Fin 4) (port : DeskOut) {k : Fin 16} {d : Fin 192}
    (h : d.val = 128 + p.val * 16 + k.val) :
    (beginOutFrame samples p port).frame[k] = if port.enabled then samples[d] else 0#24 := by
  obtain rfl : deskTrack p k = d := Fin.ext h.symm
  simp [beginOutFrame]

/-- Settles O36: the tick read at each block. -/
theorem tickHandsOverThePreviousTicksWork : Obligations.TickHandsOverThePreviousTicksWork := by
  intro desk s hwf hr
  refine ⟨tick desk s, doneWith_of_wellFormed (exec_sampleTick desk s) hwf hr, tick_link desk s, (tick_rstLow desk s).trans hr,
    tick_windowTicked desk s, (tick_alert desk s).trans (pulseTick_eq s.alert), ?_, fun n => ⟨?_, ?_, ?_, ?_⟩, ?_, ?_, ?_,
    fun p => ⟨?_, ?_⟩, fun p => tick_deskIn desk s p⟩
  · intro n j a b ha hb
    rw [tick_outBundle]
    rw [← trackA_eq ha, ← trackB_eq hb]
    split
    · next hnone => rw [isRouted_false.2 hnone, bundleTick_unrouted]
    · next hsome =>
      rw [← isRouted_false, Bool.not_eq_false] at hsome
      rw [hsome, bundleTick_routed]
  · intro hp
    rw [tick_lane, presenceTick_absent hp]
    exact ⟨hp, rfl⟩
  · intro c hp hc
    rw [tick_lane, presenceTick_counts hp hc]
    exact ⟨rfl, rfl⟩
  · intro c hp hc
    rw [tick_lane, presenceTick_ends hp hc]
    exact ⟨rfl, rfl⟩
  · rw [tick_lane]
  · intro n j a b ha hb
    rw [← trackA_eq ha, ← trackB_eq hb]
    exact ⟨tick_inBundle_ends desk s n j, tick_inBundle_goes_on desk s n j⟩
  · rw [tick_desk]; rfl
  · rw [tick_desk]; rfl
  · rw [tick_deskOut]; rfl
  · intro k d hd
    rw [tick_deskOut]
    exact beginOutFrame_slot _ p _ hd

end Sys2Proof.Machine
end

section
/-!
REF_FRAME_PULSE and QUIET_ENTERED (R7, R8, R91, R94, R110): the meters latch, and the QUIET assessment of a source case by case.
-/
namespace Sys2Proof.Machine

/-! ## Meters (R91) -/

/-- A meter with a running peak from 2^j to 2^(j + 1) − 1 gives the level code 22 − j, one of 0 gives 23. -/
theorem meterLatch_latched (m : Meter) : MeterLatched m (meterLatch m) := by
  refine ⟨rfl, rfl, fun h0 => if_pos h0, fun j hlo hhi => ?_⟩
  have h0 : m.running ≠ 0 := Nat.pos_iff_ne_zero.1 (Nat.lt_of_lt_of_le (Nat.two_pow_pos j) hlo)
  have hj : Nat.log2 m.running = j := (Nat.log2_eq_iff h0).2 ⟨hlo, hhi⟩
  simp only [meterLatch, levelCode, if_neg h0, hj]

/-! ## The QUIET assessment (R94, R110) -/

/-- The assessment brings the source into QUIET. -/
abbrev EntersQuiet (st : MonitorSettings) (src : Source) : Prop :=
  src.state = .running ∧ st.quietLevel ≤ src.meter.level ∧ src.quiet = false ∧ st.quietFrames ≤ min (src.quietCount + 1) 255

/-- The assessment takes the source out of QUIET. -/
abbrev LeavesQuiet (st : MonitorSettings) (src : Source) : Prop :=
  src.state = .running ∧ src.meter.level < st.quietLevel ∧ src.quiet = true

section
variable {st : MonitorSettings} {src : Source}

theorem assessQuiet_other (h : src.state ≠ .running) : assessQuiet st src = (src, false) := by
  rw [assessQuiet, if_neg h]

theorem assessQuiet_enters (h : EntersQuiet st src) :
    assessQuiet st src =
      ({ src with
        quietCount := min (src.quietCount + 1) 255
        quiet      := true
        changeFlag := src.changeFlag || (src.changeEnable && st.quietEdges != .leave) }, true) := by
  obtain ⟨hr, hl, hq, hf⟩ := h
  simp [assessQuiet, markEdge, selectsEnter_eq, hr, hl, hq, hf, Bool.and_comm]

/-- At Q or above without entering, only the count goes up. -/
theorem assessQuiet_counts (hr : src.state = .running) (hl : st.quietLevel ≤ src.meter.level) (h : ¬ EntersQuiet st src) :
    assessQuiet st src = ({ src with quietCount := min (src.quietCount + 1) 255 }, false) := by
  have hf : ¬ (st.quietFrames ≤ min (src.quietCount + 1) 255 ∧ src.quiet = false) := fun hf => h ⟨hr, hl, hf.2, hf.1⟩
  rw [assessQuiet, if_pos hr, if_pos hl]
  exact if_neg hf

theorem assessQuiet_leaves (h : LeavesQuiet st src) :
    assessQuiet st src =
      ({ src with
        quietCount := 0
        quiet      := false
        changeFlag := src.changeFlag || (src.changeEnable && st.quietEdges != .enter) }, false) := by
  obtain ⟨hr, hl, hq⟩ := h
  simp [assessQuiet, markEdge, selectsLeave_eq, hr, hl, hq, Bool.and_comm]

/-- Below Q a source that is not QUIET only drops its count. -/
theorem assessQuiet_drops (hr : src.state = .running) (hl : src.meter.level < st.quietLevel) (hq : src.quiet = false) :
    assessQuiet st src = ({ src with quietCount := 0 }, false) := by
  rw [assessQuiet, if_pos hr, if_neg (not_le.2 hl)]
  simp [hq]

end

/-- The assessment, all cases in one: the source after it, and whether it enters QUIET. -/
theorem assessQuiet_eq (st : MonitorSettings) (src : Source) :
    assessQuiet st src =
      ({ src with
        quietCount :=
          if src.state ≠ .running then src.quietCount
          else if st.quietLevel ≤ src.meter.level then min (src.quietCount + 1) 255
          else 0
        quiet := decide (EntersQuiet st src ∨ src.quiet = true ∧ ¬ LeavesQuiet st src)
        changeFlag := decide (src.changeFlag = true ∨ src.changeEnable = true ∧
          (EntersQuiet st src ∧ st.quietEdges ≠ .leave ∨ LeavesQuiet st src ∧ st.quietEdges ≠ .enter)) },
      decide (EntersQuiet st src)) := by
  by_cases hr : src.state = .running
  · by_cases hl : st.quietLevel ≤ src.meter.level
    · have hnl : ¬ LeavesQuiet st src := fun h => absurd h.2.1 (not_lt.2 hl)
      by_cases he : EntersQuiet st src
      · rw [assessQuiet_enters he]
        simp [he, hnl, bne, Bool.beq_eq_decide_eq]
      · rw [assessQuiet_counts hr hl he]
        simp only [he, hnl, hr, hl]
        simp
    · have he : ¬ EntersQuiet st src := fun h => hl h.2.1
      by_cases hq : src.quiet = true
      · have hlv : LeavesQuiet st src := ⟨hr, not_le.1 hl, hq⟩
        rw [assessQuiet_leaves hlv]
        simp [he, hlv, hl, bne, Bool.beq_eq_decide_eq]
      · rw [assessQuiet_drops hr (not_le.1 hl) (Bool.eq_false_of_not_eq_true hq)]
        simp [hr, hl, hq]
  · have he : ¬ EntersQuiet st src := fun h => hr h.1
    have hnl : ¬ LeavesQuiet st src := fun h => hr h.1
    rw [assessQuiet_other hr]
    simp [he, hnl, hr]

theorem assessQuiet_entered_iff (st : MonitorSettings) (src : Source) :
    (assessQuiet st src).2 = true ↔ EntersQuiet st src := by
  rw [assessQuiet_eq]
  exact decide_eq_true_iff

theorem assessQuiet_meter (st : MonitorSettings) (src : Source) : (assessQuiet st src).1.meter = src.meter := by
  rw [assessQuiet_eq]

/-! ## The window closed (R7, R8) -/

/-- QUIET entries added to the pending trigger set (R70). -/
theorem addTriggers_quiet (rt : RouteTable) (q : Fin 192 → Bool) :
    addTriggers rt (fun _ => false) q = { rt with pendingQuiet := bankMapIdx (fun n old => old || q n) rt.pendingQuiet } := by
  rw [addTriggers, bankMapIdx_id_of fun _ => Bool.or_false _]

theorem closeWindow_empty {s : State} (h : s.windowTicked = false) : closeWindow s = s := by
  rw [closeWindow, h]
  rfl

theorem closeWindow_ticked {s : State} (h : s.windowTicked = true) :
    closeWindow s =
      { s with
        route := { s.route with
          destMeters   := bankMap meterLatch s.route.destMeters
          pendingQuiet := bankMapIdx (fun n old => old || (frameWorks s.monitor)[n].2) s.route.pendingQuiet }
        monitor := { s.monitor with sources := bankMap (·.1) (frameWorks s.monitor) }
        windowTicked := false } := by
  rw [closeWindow, if_pos h, addTriggers_quiet, latchDestMeters]

/-- A pulse touches the meters, the sources and the QUIET entries at the Route Table and the Source Monitor, and closes the window. -/
theorem closeWindow_frame (s : State) :
    closeWindow s = { s with
      route := { s.route with
        destMeters := (closeWindow s).route.destMeters, pendingQuiet := (closeWindow s).route.pendingQuiet }
      monitor := { s.monitor with sources := (closeWindow s).monitor.sources }
      windowTicked := false } := by
  cases h : s.windowTicked with
  | false =>
    rw [closeWindow_empty h]
    cases s
    cases h
    rfl
  | true =>
    rw [closeWindow_ticked h]

section
variable {s : State} (h : s.windowTicked = true) (n : Fin 192)
include h

theorem closeWindow_destMeter : MeterLatched s.route.destMeters[n] (closeWindow s).route.destMeters[n] := by
  rw [closeWindow_ticked h]
  simp only [Fin.getElem_fin, bankMap_get]
  exact meterLatch_latched _

/-- A source at the pulse: its meter latches, then it is assessed by the level code just computed. -/
theorem closeWindow_source :
    (closeWindow s).monitor.sources[n] =
      (assessQuiet s.monitor.settings { s.monitor.sources[n] with meter := meterLatch s.monitor.sources[n].meter }).1 := by
  rw [closeWindow_ticked h]
  simp only [frameWorks, sourceFrame, Fin.getElem_fin, bankMap_get]

theorem closeWindow_meter : (closeWindow s).monitor.sources[n].meter = meterLatch s.monitor.sources[n].meter := by
  rw [closeWindow_source h, assessQuiet_meter]

theorem closeWindow_pendingQuiet :
    (closeWindow s).route.pendingQuiet[n] = true ↔
      s.route.pendingQuiet[n] = true ∨
        EntersQuiet s.monitor.settings { s.monitor.sources[n] with meter := meterLatch s.monitor.sources[n].meter } := by
  rw [closeWindow_ticked h, ← assessQuiet_entered_iff]
  simp only [frameWorks, sourceFrame, Fin.getElem_fin, bankMap_get, bankMapIdx_get, Bool.or_eq_true]

end

/-! ## QUIET_ENTERED (R94; logs 3, 15) -/

theorem enterQuiet_not {n : Fin 192} {s : State} (h : ¬ EntersQuiet s.monitor.settings s.monitor.sources[n]) :
    enterQuiet n s = s := by
  rw [← assessQuiet_entered_iff] at h
  exact if_neg h

theorem enterQuiet_enters {n : Fin 192} {s : State} (h : EntersQuiet s.monitor.settings s.monitor.sources[n]) :
    enterQuiet n s = { s with
      monitor := { s.monitor with
        sources := bankSet s.monitor.sources n (assessQuiet s.monitor.settings s.monitor.sources[n]).1 }
      route := { s.route with
        pendingQuiet := bankMapIdx (fun k old => old || decide (k = n)) s.route.pendingQuiet } } := by
  rw [← addTriggers_quiet]
  exact if_pos ((assessQuiet_entered_iff _ _).2 h)

/-- Settles O41: the window at the pulse, and the entry of one source alone. -/
theorem pulseClosesTheWindow : Obligations.PulseClosesTheWindow := by
  refine ⟨fun s hr => ⟨referencePulse s, doneWith_refFramePulse hr, ?_, ?_, ?_, fun h => ?_, fun h => ⟨?_, ?_⟩⟩, ?_⟩
  · rw [referencePulse, closeWindow_frame]
  · rw [referencePulse, closeWindow_frame]
  · rw [referencePulse, closeWindow_frame]
  · rw [referencePulse, closeWindow_empty h]
    exact ⟨rfl, rfl⟩
  · exact closeWindow_destMeter h
  · intro n
    have hm : (referencePulse s).monitor.sources[n].meter = meterLatch s.monitor.sources[n].meter := closeWindow_meter h n
    dsimp only
    rw [hm]
    refine ⟨meterLatch_latched _, ?_, ?_⟩
    · exact closeWindow_pendingQuiet h n
    · exact (closeWindow_source h n).trans (congrArg Prod.fst (assessQuiet_eq _ _))
  · intro n s hr
    have hdone : DoneWith (.quietEntered n) s (enterQuiet n s) := doneWith_of_event (exec_quietEntered n s) hr
    refine ⟨fun h => ?_, fun h => ?_⟩
    · refine exec_eq_self_of_doneWith hdone (enterQuiet_not fun he => h ?_)
      tauto
    · have he : EntersQuiet s.monitor.settings s.monitor.sources[n] := by tauto
      rw [enterQuiet_enters he] at hdone
      refine ⟨_, _, hdone, rfl, fun k hk => ?_, ?_, fun k => ?_⟩
      · exact bankSet_other _ _ hk
      · exact (bankSet_get_self _ _ _).trans (by rw [assessQuiet_enters he])
      · exact bankMapIdx_get _ _ _ _

end Sys2Proof.Machine
end

section
/-!
SET_DESK (R105, R106, R153) and the frames in progress when WCLK stops (R152, R185).
-/
namespace Sys2Proof.Machine

/-! ## The enables as a byte (R105, R179) -/

/-- Bit i of a mask is member i (R179). -/
theorem testBit_maskOf (members : List Bool) (i : Nat) : (maskOf members).testBit i = members.getD i false := by
  induction members generalizing i with
  | nil => simp [maskOf]
  | cons b rest ih =>
    have hmask : maskOf (b :: rest) = Nat.bit b (maskOf rest) := by
      rw [maskOf, Nat.bit_val, Nat.add_comm]
      cases b <;> rfl
    cases i with
    | zero => rw [hmask, Nat.testBit_bit_zero]; rfl
    | succ i => rw [hmask, Nat.testBit_bit_succ, ih]; rfl

theorem getLsbD_oneByte_maskOf (members : List Bool) {i : Nat} (h : i < 8) :
    (oneByte (maskOf members)).getLsbD i = members.getD i false := by
  rw [oneByte, BitVec.getLsbD_ofNat, testBit_maskOf, decide_eq_true h, Bool.true_and]

/-- The enables byte: the input ports in bits 0 to 3, the output ports in bits 4 to 7. -/
theorem getLsbD_deskEnables (d : Desk) (k : Fin 4) :
    (deskEnables d).getLsbD k.val = d.ins[k].enabled ∧ (deskEnables d).getLsbD (4 + k.val) = d.outs[k].enabled := by
  rw [deskEnables, getLsbD_oneByte_maskOf _ (by omega), getLsbD_oneByte_maskOf _ (by omega)]
  simp [List.getElem?_append]

/-! ## SET_DESK (R105, R106, R153) -/

section
variable {s : State} {dir port : Byte} {on : Bool}

theorem setDesk_range (h : 2 ≤ dir.toNat ∨ 4 ≤ port.toNat) : setDesk s dir port on = (s, ⟨.range, []⟩) := by
  unfold setDesk
  split
  · rfl
  · next p hp =>
    have hport : port.toNat < 4 := by
      rw [← toIndex_eq_some.1 hp]
      exact p.isLt
    have hdir : 2 ≤ dir.toNat := h.resolve_right (not_le.2 hport)
    have hne (b : Byte) (hb : b.toNat < 2) : dir ≠ b := by
      rintro rfl
      omega
    rw [if_neg (hne 0#8 (by decide)), if_neg (hne 1#8 (by decide))]
    rfl

variable {p : Fin 4}

theorem setDesk_in (hp : port.toNat = p.val) (hd : dir.toNat = 0) :
    setDesk s dir port on = (setDeskIn s p on, ⟨.ok, [deskEnables (setDeskIn s p on).desk]⟩) := by
  obtain rfl : dir = 0#8 := BitVec.eq_of_toNat_eq hd
  rw [setDesk, hp, toIndex_val]
  rfl

theorem setDesk_out (hp : port.toNat = p.val) (hd : dir.toNat = 1) :
    setDesk s dir port on = (setDeskOut s p on, ⟨.ok, [deskEnables (setDeskOut s p on).desk]⟩) := by
  obtain rfl : dir = 1#8 := BitVec.eq_of_toNat_eq hd
  rw [setDesk, hp, toIndex_val]
  rfl

end

@[simp] theorem enableIn_enabled (port : DeskIn) (on : Bool) : (enableIn port on).enabled = on := by
  unfold enableIn
  split
  · assumption
  · rfl

theorem enableIn_same {port : DeskIn} {on : Bool} (h : port.enabled = on) : enableIn port on = port := if_pos h

theorem enableIn_changed {port : DeskIn} {on : Bool} (h : port.enabled ≠ on) : (enableIn port on).shift = .nothing := by
  rw [enableIn, if_neg h]

/-- The sources of a desk input port (R1). -/
theorem deskPortOf_eq_some {n : Fin 192} {p : Fin 4} : deskPortOf n = some p ↔ 128 ≤ n.val ∧ (n.val - 128) / 16 = p.val := by
  unfold deskPortOf
  split <;> simp_all [Fin.ext_iff]

theorem setDeskIn_desk (s : State) (p : Fin 4) (on : Bool) :
    (setDeskIn s p on).desk = { s.desk with ins := bankModify s.desk.ins p fun port => enableIn port on } := by
  simp only [setDeskIn]

theorem setDeskIn_monitor (s : State) (p : Fin 4) (on : Bool) :
    (setDeskIn s p on).monitor =
      if s.desk.ins[p].enabled = true ∧ on = false then idleDeskSources s.monitor p else s.monitor := by
  simp only [setDeskIn, Bool.and_eq_true, Bool.not_eq_true']

theorem setDeskOut_desk (s : State) (p : Fin 4) (on : Bool) :
    (setDeskOut s p on).desk = { s.desk with outs := bankModify s.desk.outs p fun port => { port with enabled := on } } := by
  simp only [setDeskOut]

/-- The sources after SET_DESK on an input port: those of a port turned off are IDLE (R106). -/
theorem setDeskIn_source (s : State) (p : Fin 4) (on : Bool) (n : Fin 192) :
    (setDeskIn s p on).monitor.sources[n] =
      if s.desk.ins[p].enabled = true ∧ on = false ∧ 128 ≤ n.val ∧ (n.val - 128) / 16 = p.val then
        makeIdle s.monitor.sources[n]
      else s.monitor.sources[n] := by
  rw [setDeskIn_monitor]
  by_cases hoff : s.desk.ins[p].enabled = true ∧ on = false
  · rw [if_pos hoff]
    simp only [idleDeskSources, Fin.getElem_fin, bankMapIdx_get, deskPortOf_eq_some]
    rw [Fin.getElem_fin] at hoff
    simp only [hoff, true_and]
  · rw [if_neg hoff, if_neg fun h => hoff ⟨h.1, h.2.1⟩]

theorem setDeskIn_settings (s : State) (p : Fin 4) (on : Bool) :
    (setDeskIn s p on).monitor.settings = s.monitor.settings := by
  rw [setDeskIn_monitor]
  split
  · exact idleDeskSources_settings _ _
  · rfl

theorem setDeskIn_port_self (s : State) (p : Fin 4) (on : Bool) :
    (setDeskIn s p on).desk.ins[p] = enableIn s.desk.ins[p] on := by
  rw [setDeskIn_desk]
  exact bankModify_get_self _ _ _

theorem setDeskIn_port_ne (s : State) {p k : Fin 4} (on : Bool) (h : k ≠ p) :
    (setDeskIn s p on).desk.ins[k] = s.desk.ins[k] := by
  rw [setDeskIn_desk]
  exact bankModify_other _ _ h

theorem setDeskOut_port (s : State) (p k : Fin 4) (on : Bool) :
    (setDeskOut s p on).desk.outs[k] = { s.desk.outs[k] with enabled := if k = p then on else s.desk.outs[k].enabled } := by
  rw [setDeskOut_desk]
  by_cases h : k = p
  · rw [if_pos h, h]
    exact bankModify_get_self _ _ _
  · rw [if_neg h]
    exact bankModify_other _ _ h

/-- A SET_DESK leaves the ports and the sources that its block gives. -/
theorem takenWith_setDesk {dir port : Byte} {on : Bool} {s t : State} {r : Response} (h : HandedOver (.setDesk dir port on) s)
    (ht : setDesk s dir port on = (t, r)) : TakenWith (.setDesk dir port on) s t r := by
  have hd := takenWith_of_request (exec_setDesk dir port on s) h
  simp only [ht] at hd
  exact hd

/-! ## WCLK stopped (R152, R185; logs 3, 21) -/

theorem wellFormedFrames_length {frames : List (List Sample)} (h : wellFormedFrames frames = true) : frames.length = 4 :=
  beq_iff_eq.1 (Bool.and_eq_true_iff.1 h).1

theorem doneWith_framesCompleted {frames : List (List Sample)} {s : State} (hf : wellFormedFrames frames = true)
    (hr : s.rstLow = false) :
    DoneWith (.deskFrameInProgressCompleted frames) s { s with desk := completeDeskFrames frames s.desk } :=
  doneWith_of_wellFormed (exec_deskFrameInProgressCompleted frames s) hf hr

theorem completeDeskFrames_idle (frames : List (List Sample)) {d : Desk} (h : d.framing = false) :
    completeDeskFrames frames d = d := by
  rw [completeDeskFrames, h]
  rfl

section
variable (frames : List (List Sample)) {d : Desk} (h : d.framing = true) (p : Fin 4)
include h

theorem completeDeskFrames_clocks :
    (completeDeskFrames frames d).framing = false ∧ (completeDeskFrames frames d).clock = d.clock := by
  rw [completeDeskFrames, if_pos h]
  exact ⟨rfl, rfl⟩

theorem completeDeskFrames_out :
    (completeDeskFrames frames d).outs[p] = { d.outs[p] with frame := Vector.replicate 16 0#24 } := by
  rw [completeDeskFrames, if_pos h]
  exact bankMap_get _ _ _ _

/-- An input port that shifts in no frame is left alone (R185). -/
theorem completeDeskFrames_in_other (hs : d.ins[p].shift ≠ .shifting) : (completeDeskFrames frames d).ins[p] = d.ins[p] := by
  rw [completeDeskFrames, if_pos h]
  simp only [Fin.getElem_fin, bankMapIdx_get]
  cases hp : d.ins[p.val].shift with
  | shifting => exact absurd hp hs
  | nothing => rfl
  | held frame => rfl

/-- An input port that shifts in a frame holds it (R185). -/
theorem completeDeskFrames_in_shifting (hs : d.ins[p].shift = .shifting) :
    (completeDeskFrames frames d).ins[p] = ⟨d.ins[p].enabled, .held (frames.getD p.val [])⟩ := by
  rw [completeDeskFrames, if_pos h]
  simp only [Fin.getElem_fin, bankMapIdx_get]
  rw [Fin.getElem_fin] at hs
  rw [hs]

end

/-- Settles O47: SET_DESK by its direction, and the completed frames by the frame sync. -/
theorem deskPortsFollowTheirEnables : Obligations.DeskPortsFollowTheirEnables := by
  refine ⟨fun dir port on s h => ⟨fun hbad => ?_, fun p hp hd => ?_⟩, fun frames s hf hr => ⟨fun hframe => ?_, fun hframe => ?_⟩⟩
  · exact answeredWith_of_refused (exec_setDesk dir port on s) h (setDesk_range hbad)
  · rcases Nat.le_one_iff_eq_zero_or_eq_one.1 hd with hin | hout
    · have ht := takenWith_setDesk h (setDesk_in hp hin)
      have hne : ¬ dir.toNat = 1 := by omega
      refine ⟨(setDeskIn s p on).desk, (setDeskIn s p on).monitor, _, ht, getLsbD_deskEnables _, ?_, setDeskIn_settings s p on,
        fun k => ⟨?_, ?_, ?_⟩, fun n => ?_⟩
      · rw [setDeskIn_desk]
      · rintro ⟨-, rfl⟩
        rw [setDeskIn_port_self]
        exact ⟨enableIn_enabled _ _, enableIn_same, enableIn_changed⟩
      · exact fun hk => setDeskIn_port_ne s on fun e => hk ⟨hin, e⟩
      · rw [setDeskIn_desk, if_neg fun e => hne e.1]
      · rw [setDeskIn_source]
        simp only [hin, true_and]
        rfl
    · have ht := takenWith_setDesk h (setDesk_out hp hout)
      have hne : ¬ dir.toNat = 0 := by omega
      refine ⟨(setDeskOut s p on).desk, s.monitor, _, ht, getLsbD_deskEnables _, ?_, rfl, fun k => ⟨?_, ?_, ?_⟩, fun n => ?_⟩
      · rw [setDeskOut_desk]
      · exact fun hk => absurd hk.1 hne
      · intro _
        rw [setDeskOut_desk]
      · rw [setDeskOut_port]
        simp only [hout, true_and]
      · rw [if_neg fun e => hne e.1]
  · refine exec_eq_self_of_doneWith (doneWith_framesCompleted hf hr) ?_
    rw [completeDeskFrames_idle frames hframe]
  · obtain ⟨hsync, hclock⟩ := completeDeskFrames_clocks frames hframe
    refine ⟨completeDeskFrames frames s.desk, ?_, hsync, hclock, fun p => ⟨?_, fun k => ?_, ?_, fun hs => ?_⟩⟩
    · exact exec_eq_of_doneWith (doneWith_framesCompleted hf hr) rfl rfl
    · rw [completeDeskFrames_out frames hframe]
    · rw [completeDeskFrames_out frames hframe]
      simp
    · exact completeDeskFrames_in_other frames hframe p
    · refine ⟨frames.getD p.val [], ?_, completeDeskFrames_in_shifting frames hframe p hs⟩
      simp [wellFormedFrames_length hf]

end Sys2Proof.Machine
end

section
/-!
Requests that the Edit Stage takes: from what its block answers to the outcome a claim names, and the lowest slot that meets a test (R43).
-/
namespace Sys2Proof.Machine

section
variable {c : Instr} {s : State} {act : State → EditStage × Response} {r : Response}

/-- A request leaves the Edit Stage that its block gives. -/
theorem takenWith_of_edit {es : EditStage}
    (arm : exec c s = takeRequest c s fun s => ({ s with edit := (act s).1 }, (act s).2)) (h : HandedOver c s)
    (ha : act s = (es, r)) : TakenWith c s { s with edit := es } r := by
  have ht := takenWith_of_request arm h
  simp only [ha] at ht
  exact ht

/-- A request that the Edit Stage refuses is answered, and nothing else changes. -/
theorem answeredWith_of_edit
    (arm : exec c s = takeRequest c s fun s => ({ s with edit := (act s).1 }, (act s).2)) (h : HandedOver c s)
    (ha : act s = (s.edit, r)) : AnsweredWith c s r :=
  answeredWith_of_refused arm h (by simp only [ha])

end

/-! ## The states of a slot (R41) -/

section
variable {b : BatchSlot}

theorem isOpened_iff : isOpened b = true ↔ ∃ edits, b = .opened edits := by
  cases b <;> simp [isOpened]

theorem isArmed_iff : isArmed b = true ↔ ∃ edits m t a, b = .armed edits m t a := by
  cases b <;> simp [isArmed]

theorem isDone_iff : isDone b = true ↔ ∃ r, b = .done r := by
  cases b <;> simp [isDone]

theorem isFreeSlot_eq_false : isFreeSlot b = false ↔ b ≠ .free := by
  cases b <;> simp [isFreeSlot]

end

/-! ## The lowest slot that meets a test -/

section
variable {test : BatchSlot → Bool} {es : EditStage}

theorem lowestSlot_eq_none (h : ∀ i : Fin 4, test es.slots[i] = false) : lowestSlot test es = none := by
  simp only [lowestSlot, List.find?_eq_none, h, Bool.false_eq_true, not_false_eq_true, implies_true]

theorem lowestSlot_eq_some {i : Fin 4} (hi : test es.slots[i] = true) (hlt : ∀ j : Fin 4, j < i → test es.slots[j] = false) :
    lowestSlot test es = some i := by
  rw [lowestSlot, bankIndices, List.find?_eq_some_iff_getElem]
  refine ⟨hi, i.val, by simp, List.getElem_finRange _, fun j hj => ?_⟩
  rw [List.getElem_finRange]
  simpa using hlt ⟨j, by omega⟩ hj

end

/-! ## OPEN_BATCH (R43) -/

section
variable {es : EditStage} {i : Fin 4}

theorem openBatch_alreadyOpen (h : lowestSlot isOpened es = some i) :
    openBatch es = (es, ⟨.alreadyOpen, [BitVec.ofNat 8 i.val]⟩) := by
  rw [openBatch, h]
  rfl

theorem openBatch_noSlot (ho : lowestSlot isOpened es = none) (hf : lowestSlot isFreeSlot es = none) :
    openBatch es = (es, ⟨.noSlot, []⟩) := by
  rw [openBatch, ho, hf]
  rfl

theorem openBatch_opens (ho : lowestSlot isOpened es = none) (hf : lowestSlot isFreeSlot es = some i) :
    openBatch es = (setSlot es i (.opened []), ⟨.ok, [BitVec.ofNat 8 i.val]⟩) := by
  rw [openBatch, ho, hf]
  rfl

/-- In a sound Edit Stage an OPEN slot is the lowest one: there is no other. -/
theorem EditOk.lowestOpened (hok : EditOk es) (hi : isOpened es.slots[i] = true) : lowestSlot isOpened es = some i := by
  refine lowestSlot_eq_some hi fun j hj => ?_
  by_contra ho
  exact hj.ne (hok.oneOpen j i (by simpa using ho) hi)

/-- Where no slot was OPEN, one that is opened is the only one. -/
theorem eq_of_isOpened_setSlot {j : Fin 4} {b : BatchSlot} (hno : ∀ j : Fin 4, isOpened es.slots[j] = false)
    (hj : isOpened (setSlot es i b).slots[j] = true) : j = i := by
  by_contra hne
  have hkept : (setSlot es i b).slots[j] = es.slots[j] := bankSet_other _ _ hne
  rw [hkept, hno j] at hj
  cases hj

end

/-- Settles O21: the OPEN slot if there is one, else the lowest FREE slot. -/
theorem openBatchOpensTheLowestFreeSlot : Obligations.OpenBatchOpensTheLowestFreeSlot := by
  intro s h hok
  refine ⟨fun i edits hi => ?_, fun hnone => ?_, fun i hno hi hlt => ?_⟩
  · refine answeredWith_of_edit (exec_openBatch s) h (openBatch_alreadyOpen (hok.lowestOpened ?_))
    exact isOpened_iff.2 ⟨edits, hi⟩
  · refine answeredWith_of_edit (exec_openBatch s) h
      (openBatch_noSlot (lowestSlot_eq_none fun i => (hnone i).1) (lowestSlot_eq_none fun i => ?_))
    exact isFreeSlot_eq_false.2 (hnone i).2
  · have hfree : lowestSlot isFreeSlot s.edit = some i :=
      lowestSlot_eq_some (by rw [hi]; rfl) fun j hj => isFreeSlot_eq_false.2 (hlt j hj)
    refine ⟨_, takenWith_of_edit (exec_openBatch s) h (openBatch_opens (lowestSlot_eq_none hno) hfree), rfl, ?_, fun j hj => ?_,
      fun j k hj hk => ?_⟩
    · exact bankSet_get_self _ _ _
    · exact bankSet_other _ _ hj
    · exact (eq_of_isOpened_setSlot hno hj).trans (eq_of_isOpened_setSlot hno hk).symm

end Sys2Proof.Machine
end

section
/-!
RELEASE_BATCH and CANCEL_BATCH (R58, R59), one equation for each state of the slot, and the image of READ_RESULT (R57, R182).
-/
namespace Sys2Proof.Machine

section
variable {es : EditStage} {slot : Byte}

/-! ## A number that names no slot -/

theorem releaseBatch_noSlot (h : 4 ≤ slot.toNat) : releaseBatch es slot = (es, ⟨.range, []⟩) := by
  rw [releaseBatch, toIndex_eq_none.2 h]
  rfl

theorem cancelBatch_noSlot (h : 4 ≤ slot.toNat) : cancelBatch es slot = (es, ⟨.range, []⟩) := by
  rw [cancelBatch, toIndex_eq_none.2 h]
  rfl

theorem readResult_noSlot (h : 4 ≤ slot.toNat) : readResult es slot = ⟨.range, []⟩ := by
  rw [readResult, toIndex_eq_none.2 h]
  rfl

variable {i : Fin 4} (hi : slot.toNat = i.val)
include hi

/-! ## RELEASE_BATCH (R58) -/

theorem releaseBatch_badState (h : es.slots[i] = .free ∨ isArmed es.slots[i] = true) :
    releaseBatch es slot = (es, ⟨.badState, []⟩) := by
  rw [releaseBatch, hi, toIndex_val]
  rw [isArmed_iff] at h
  rcases h with h | ⟨edits, m, t, a, h⟩ <;> simp only [h] <;> rfl

theorem releaseBatch_freed (h : isOpened es.slots[i] = true ∨ isDone es.slots[i] = true) :
    releaseBatch es slot = (setSlot es i .free, ⟨.ok, []⟩) := by
  rw [releaseBatch, hi, toIndex_val]
  rw [isOpened_iff, isDone_iff] at h
  rcases h with ⟨edits, h⟩ | ⟨r, h⟩ <;> simp only [h] <;> rfl

/-! ## CANCEL_BATCH (R59) -/

theorem cancelBatch_badState (h : es.slots[i] = .free) : cancelBatch es slot = (es, ⟨.badState, []⟩) := by
  rw [cancelBatch, hi, toIndex_val]
  simp only [h]
  rfl

theorem cancelBatch_tooLate (h : isDone es.slots[i] = true) : cancelBatch es slot = (es, ⟨.tooLate, []⟩) := by
  obtain ⟨r, h⟩ := isDone_iff.1 h
  rw [cancelBatch, hi, toIndex_val]
  simp only [h]
  rfl

theorem cancelBatch_opened (h : isOpened es.slots[i] = true) : cancelBatch es slot = (setSlot es i .free, ⟨.ok, []⟩) := by
  obtain ⟨edits, h⟩ := isOpened_iff.1 h
  rw [cancelBatch, hi, toIndex_val]
  simp only [h]
  rfl

theorem cancelBatch_armed (h : isArmed es.slots[i] = true) : cancelBatch es slot = (freeSlot es i, ⟨.ok, []⟩) := by
  obtain ⟨edits, m, t, a, h⟩ := isArmed_iff.1 h
  rw [cancelBatch, hi, toIndex_val]
  simp only [h]
  rfl

/-! ## READ_RESULT (R57) -/

theorem readResult_notDone (h : isDone es.slots[i] = false) : readResult es slot = ⟨.notDone, []⟩ := by
  rw [readResult, hi, toIndex_val]
  cases hs : es.slots[i] with
  | done r => rw [hs] at h; cases h
  | free => simp only [hs]; rfl
  | opened edits => simp only [hs]; rfl
  | armed edits m t a => simp only [hs]; rfl

theorem readResult_done {r : BatchResult} (h : es.slots[i] = .done r) : readResult es slot = ⟨.ok, resultImage r⟩ := by
  rw [readResult, hi, toIndex_val]
  simp only [h]
  rfl

end

/-- The BATCH request is no more once the only DONE slot is FREE (R56, R154). -/
theorem requests_batch_setSlot_free {s : State} {i : Fin 4} (h : ∀ j : Fin 4, j ≠ i → isDone s.edit.slots[j] = false) :
    (requests { s with edit := setSlot s.edit i .free }).batch = false := by
  refine (bankAny_false_iff isDone _).2 fun j => ?_
  by_cases hj : j = i
  · rw [hj]
    exact congrArg isDone (bankSet_get_self s.edit.slots i .free)
  · exact (congrArg isDone (bankSet_other _ _ hj)).trans (h j hj)

/-- Settles O25, by the state of the slot. -/
theorem releaseBatchFreesDoneAndOpen : Obligations.ReleaseBatchFreesDoneAndOpen := by
  intro slot s h
  refine ⟨fun hslot => ?_, fun i hi => ⟨fun hbad => ?_, fun hheld => ?_⟩⟩
  · exact answeredWith_of_edit (exec_releaseBatch slot s) h (releaseBatch_noSlot hslot)
  · exact answeredWith_of_edit (exec_releaseBatch slot s) h (releaseBatch_badState hi hbad)
  · refine ⟨_, takenWith_of_edit (exec_releaseBatch slot s) h (releaseBatch_freed hi hheld), rfl, ?_, fun j hj => ?_,
      requests_batch_setSlot_free⟩
    · exact bankSet_get_self _ _ _
    · exact bankSet_other _ _ hj

/-! ## The result image (R56, R182) -/

/-- A word is sent as its number, most significant byte first (R165, R179). -/
theorem wordBytes_eq_numberCoded (w : Word) : wordBytes w = numberCoded w.toNat := by
  have hhi : hiByte w = BitVec.ofNat 8 (w.toNat / 256) := by
    apply BitVec.eq_of_toNat_eq
    rw [hiByte, BitVec.extractLsb'_toNat, BitVec.toNat_ofNat, Nat.shiftRight_eq_div_pow]
  have hlo : loByte w = BitVec.ofNat 8 w.toNat := by
    apply BitVec.eq_of_toNat_eq
    rw [loByte, BitVec.extractLsb'_toNat, BitVec.toNat_ofNat, Nat.shiftRight_zero]
  rw [wordBytes, numberCoded, hhi, hlo]

/-- Where items of one size stand in a row, the item of an index is found at its multiple of the size. -/
theorem take_drop_flatMap {α β : Type} {f : α → List β} {n : Nat} (hf : ∀ x, (f x).length = n) {xs : List α} {k : Nat} {x : α}
    (hk : xs[k]? = some x) : ((xs.flatMap f).drop (n * k)).take n = f x := by
  induction xs generalizing k with
  | nil => simp at hk
  | cons y ys ih =>
    cases k with
    | zero =>
      obtain rfl : y = x := by simpa using hk
      rw [Nat.mul_zero, List.drop_zero, List.flatMap_cons, List.take_left' (hf y)]
    | succ k =>
      rw [Nat.mul_succ, Nat.add_comm, ← List.drop_drop, List.flatMap_cons, List.drop_left' (hf y)]
      exact ih (by simpa using hk)

@[simp] theorem resultEntryImage_length (e : ResultEntry) : (resultEntryImage e).length = 5 := rfl

theorem resultImage_length (r : BatchResult) : (resultImage r).length = 4 + 5 * r.entries.length := by
  rw [resultImage, List.length_append, List.length_flatMap]
  simp [Nat.mul_comm]

/-- Four bytes stand before the entries, and each entry has five (R182). -/
theorem resultImage_entry {r : BatchResult} {k : Nat} {e : ResultEntry} (hk : r.entries[k]? = some e) :
    ((resultImage r).drop (4 + 5 * k)).take 5 = resultEntryImage e := by
  rw [← List.drop_drop]
  exact take_drop_flatMap resultEntryImage_length hk

/-- Settles O26: the slot by its state, and the result image byte by byte. -/
theorem cancelBatchAndReadResult : Obligations.CancelBatchAndReadResult := by
  refine ⟨fun slot s h => ⟨fun hslot => ?_, fun i hi => ⟨fun hfree => ?_, fun hdone => ?_, fun hheld => ?_⟩⟩,
    fun slot s h => ⟨fun hslot => ?_, fun i hi => ⟨fun hnot => ?_, fun r hr => ?_⟩⟩, rfl⟩
  · exact answeredWith_of_edit (exec_cancelBatch slot s) h (cancelBatch_noSlot hslot)
  · exact answeredWith_of_edit (exec_cancelBatch slot s) h (cancelBatch_badState hi hfree)
  · exact answeredWith_of_edit (exec_cancelBatch slot s) h (cancelBatch_tooLate hi hdone)
  · cases ha : isArmed s.edit.slots[i] with
    | true =>
      refine ⟨_, takenWith_of_edit (exec_cancelBatch slot s) h (cancelBatch_armed hi ha), bankSet_get_self _ _ _,
        fun j hj => bankSet_other _ _ hj, rfl, rfl⟩
    | false =>
      have ho : isOpened s.edit.slots[i] = true := hheld.resolve_right (Bool.eq_false_iff.1 ha)
      refine ⟨_, takenWith_of_edit (exec_cancelBatch slot s) h (cancelBatch_opened hi ho), bankSet_get_self _ _ _,
        fun j hj => bankSet_other _ _ hj, rfl, rfl⟩
  · rw [← readResult_noSlot (es := s.edit) hslot]
    exact answeredWith_of_read (exec_readResult slot s) h
  · rw [← readResult_notDone hi hnot]
    exact answeredWith_of_read (exec_readResult slot s) h
  · have hread := answeredWith_of_read (exec_readResult slot s) h
    rw [readResult_done hi hr] at hread
    refine ⟨_, hread, resultImage_length r, ?_, fun k e hk => ?_⟩
    · rfl
    · rw [resultImage_entry hk, ← wordBytes_eq_numberCoded]
      rfl

end Sys2Proof.Machine
end

section
/-!
One batch at apply (R49, R54 to R56): the entries of a list of edits, then the two modes by whether an edit fails.
-/
namespace Sys2Proof.Machine

/-! ## The handle of an entry (R49 to R53) -/

/-- The edit names its record by the handle `h`: it is no CREATE. -/
abbrev CarriesHandle (e : Edit) (h : Handle) : Prop := (∃ p, e = .modify h p) ∨ (∃ code, e = .retire h code) ∨ e = .revert h

theorem applyModify_handle (rt : RouteTable) (h : Handle) (p : LegPatch) : (applyModify rt h p).handle = h := by
  unfold applyModify
  repeat' split
  all_goals rfl

theorem applyRetire_handle (rt : RouteTable) (h : Handle) (code : Fin 8) : (applyRetire rt h code).handle = h := by
  unfold applyRetire
  repeat' split
  all_goals rfl

theorem applyRevert_handle (rt : RouteTable) (h : Handle) : (applyRevert rt h).handle = h := by
  unfold applyRevert
  repeat' split
  all_goals rfl

theorem applyEdit_handle_of_carries (rt : RouteTable) {e : Edit} {h : Handle} (he : CarriesHandle e h) :
    (applyEdit rt e).handle = h := by
  rcases he with ⟨p, rfl⟩ | ⟨code, rfl⟩ | rfl
  · exact applyModify_handle rt h p
  · exact applyRetire_handle rt h code
  · exact applyRevert_handle rt h

theorem kindOf_ne_create_of_carries {e : Edit} {h : Handle} (he : CarriesHandle e h) : kindOf e ≠ .create := by
  rcases he with ⟨p, rfl⟩ | ⟨code, rfl⟩ | rfl <;> nofun

/-- A CREATE is refused with handle 0, or is APPLIED with the handle of the lowest FREE slot (R50). -/
theorem applyCreate_cases (rt : RouteTable) (d : Fin 192) (leg : Leg) (b : Option Backup) :
    ((applyCreate rt d leg b).outcome ≠ .applied ∧ (applyCreate rt d leg b).handle = 0#16) ∨
      ∃ i, lowestFree rt = some i ∧ (applyCreate rt d leg b).outcome = .applied ∧
        (applyCreate rt d leg b).handle = makeHandle rt.slots[i].gen i := by
  unfold applyCreate
  split
  · exact .inl ⟨nofun, rfl⟩
  · split
    · exact .inl ⟨nofun, rfl⟩
    · split
      · exact .inl ⟨nofun, rfl⟩
      · next i hi => exact .inr ⟨i, hi, rfl, rfl⟩

/-! ## The edits of a list (R49, R54) -/

/-- The entry of an edit judged on a table. -/
def editEntry (rt : RouteTable) (e : ListedEdit) : ResultEntry :=
  ⟨kindOf e.edit, e.dest, (applyEdit rt e.edit).outcome, (applyEdit rt e.edit).handle⟩

section
variable (rt : RouteTable) (edits : List ListedEdit)

theorem applyEdits_cons (e : ListedEdit) :
    applyEdits rt (e :: edits) =
      ((applyEdits (applyEdit rt e.edit).table edits).1,
        editEntry rt e :: (applyEdits (applyEdit rt e.edit).table edits).2) := rfl

theorem applyEdits_table : (applyEdits rt edits).1 = tableAfter rt edits := by
  induction edits generalizing rt with
  | nil => rfl
  | cons e es ih => exact ih _

/-- Every edit is judged on the table as the earlier ones left it (R49). -/
theorem applyEdits_entry (k : Nat) :
    (applyEdits rt edits).2[k]? = edits[k]?.map (editEntry (tableAfter rt (edits.take k))) := by
  induction edits generalizing rt k with
  | nil => rfl
  | cons e es ih =>
    cases k with
    | zero => rfl
    | succ k => exact ih _ k

theorem applyEdits_kinds :
    (applyEdits rt edits).2.map (fun e => (e.kind, e.dest)) = edits.map fun e => (kindOf e.edit, e.dest) := by
  induction edits generalizing rt with
  | nil => rfl
  | cons e es ih => rw [applyEdits_cons, List.map_cons, List.map_cons, ih]; rfl

/-- The outcomes of the edits, each judged on the table as the earlier ones left it. -/
def judgedOutcomes : List (Option EditOutcome) :=
  (List.range edits.length).map fun k =>
    (edits[k]?).map fun e => (applyEdit (tableAfter rt (edits.take k)) e.edit).outcome

theorem applyEdits_outcomes : (applyEdits rt edits).2.map (fun e => some e.outcome) = judgedOutcomes rt edits := by
  refine List.ext_getElem (by simp [judgedOutcomes]) fun k hk hk' => ?_
  have hlt : k < edits.length := by simpa using hk
  have hentry : (applyEdits rt edits).2[k]? = some (editEntry (tableAfter rt (edits.take k)) edits[k]) := by
    rw [applyEdits_entry, List.getElem?_eq_getElem hlt, Option.map_some]
  obtain ⟨_, hentry⟩ := List.getElem?_eq_some_iff.1 hentry
  simp [judgedOutcomes, hentry, editEntry, hlt]

/-! ## The two modes (R54, R55) -/

/-- Does an edit of the list fail? -/
def batchFails : Bool := (applyEdits rt edits).2.any fun e => isFailure e.outcome

theorem batchFails_iff : batchFails rt edits = true ↔ ∃ o, some o ∈ judgedOutcomes rt edits ∧ isFailure o = true := by
  rw [← applyEdits_outcomes]
  simp [batchFails]

variable (arming : Byte)

theorem applyBatch_each :
    applyBatch rt edits .each arming =
      (tableAfter rt edits,
        ⟨.each, arming, if batchFails rt edits then .partially else .complete, (applyEdits rt edits).2⟩) := by
  rw [← applyEdits_table]
  rfl

theorem applyBatch_aborted (h : batchFails rt edits = true) :
    applyBatch rt edits .allOrNone arming =
      (rt, ⟨.allOrNone, arming, .aborted, (applyEdits rt edits).2.map abortEntry⟩) :=
  if_pos h

theorem applyBatch_whole (h : ¬ batchFails rt edits = true) :
    applyBatch rt edits .allOrNone arming =
      (tableAfter rt edits, ⟨.allOrNone, arming, .complete, (applyEdits rt edits).2⟩) := by
  rw [← applyEdits_table]
  exact if_neg h

/-- The result of a batch names its mode and its arming, and its entries are those of the edits, or those of an aborted batch. -/
theorem applyBatch_result (mode : BatchMode) :
    (applyBatch rt edits mode arming).2.mode = mode ∧ (applyBatch rt edits mode arming).2.arming = arming ∧
      ((applyBatch rt edits mode arming).2.entries = (applyEdits rt edits).2 ∨
        (applyBatch rt edits mode arming).2.entries = (applyEdits rt edits).2.map abortEntry) := by
  cases mode with
  | each => exact ⟨rfl, rfl, .inl rfl⟩
  | allOrNone =>
    by_cases h : batchFails rt edits = true
    · rw [applyBatch_aborted rt edits arming h]
      exact ⟨rfl, rfl, .inr rfl⟩
    · rw [applyBatch_whole rt edits arming h]
      exact ⟨rfl, rfl, .inl rfl⟩

end

/-! ## Entries of an aborted batch (R55) -/

/-- No outcome of an aborted batch is APPLIED. -/
theorem abortEntry_not_applied (e : ResultEntry) : (abortEntry e).outcome ≠ .applied := by
  unfold abortEntry
  split
  · next h =>
    rintro (ha : e.outcome = .applied)
    rw [ha] at h
    cases h
  · nofun

theorem abortEntry_create {e : ResultEntry} (h : e.kind = .create) : (abortEntry e).handle = 0#16 := if_pos h

theorem abortEntry_other {e : ResultEntry} (h : e.kind ≠ .create) : (abortEntry e).handle = e.handle := if_neg h

/-- The entries of an aborted batch keep their kinds and destinations. -/
theorem map_abortEntry_kinds (entries : List ResultEntry) :
    (entries.map abortEntry).map (fun e => (e.kind, e.dest)) = entries.map fun e => (e.kind, e.dest) := by
  rw [List.map_map]
  rfl

/-! ## The entries of a batch (R56) -/

section
variable {rt : RouteTable} {edits : List ListedEdit} {mode : BatchMode} {arming : Byte}

theorem applyBatch_kinds :
    (applyBatch rt edits mode arming).2.entries.map (fun e => (e.kind, e.dest)) =
      edits.map fun e => (kindOf e.edit, e.dest) := by
  obtain ⟨-, -, h | h⟩ := applyBatch_result rt edits arming mode
  · rw [h, applyEdits_kinds]
  · rw [h, map_abortEntry_kinds, applyEdits_kinds]

variable {k : Nat} {x : ListedEdit} {e : ResultEntry}

/-- The entry of an edit is as the edit was judged, or as an aborted batch records it. -/
theorem applyBatch_entry (hx : edits[k]? = some x) (he : (applyBatch rt edits mode arming).2.entries[k]? = some e) :
    e = editEntry (tableAfter rt (edits.take k)) x ∨ e = abortEntry (editEntry (tableAfter rt (edits.take k)) x) := by
  obtain ⟨-, -, h | h⟩ := applyBatch_result rt edits arming mode
  · rw [h, applyEdits_entry, hx] at he
    exact .inl (Option.some.inj he).symm
  · rw [h, List.getElem?_map, applyEdits_entry, hx] at he
    exact .inr (Option.some.inj he).symm

theorem applyBatch_entry_handle (hx : edits[k]? = some x)
    (he : (applyBatch rt edits mode arming).2.entries[k]? = some e) {h : Handle} (hc : CarriesHandle x.edit h) :
    e.handle = h := by
  have hjudged : (editEntry (tableAfter rt (edits.take k)) x).handle = h := applyEdit_handle_of_carries _ hc
  rcases applyBatch_entry hx he with rfl | rfl
  · exact hjudged
  · exact (abortEntry_other (kindOf_ne_create_of_carries hc)).trans hjudged

theorem applyBatch_entry_create (hx : edits[k]? = some x)
    (he : (applyBatch rt edits mode arming).2.entries[k]? = some e) {d : Fin 192} {leg : Leg} {b : Option Backup}
    (hc : x.edit = .create d leg b) :
    (e.outcome ≠ .applied ∧ e.handle = 0#16) ∨
      ∃ i, lowestFree (tableAfter rt (edits.take k)) = some i ∧ e.outcome = .applied ∧
        e.handle = makeHandle (tableAfter rt (edits.take k)).slots[i].gen i := by
  rcases applyBatch_entry hx he with rfl | rfl
  · simp only [editEntry, hc]
    exact applyCreate_cases _ d leg b
  · exact .inl ⟨abortEntry_not_applied _, abortEntry_create (by rw [editEntry, hc]; rfl)⟩

end

/-- The outcomes that count as failures (R49). -/
theorem isFailure_iff (o : EditOutcome) :
    isFailure o = true ↔
      o = .stale ∨ o = .guarded ∨ o = .destBusy ∨ o = .tableFull ∨ o = .routeRetiring ∨ o = .notOnBackup := by
  cases o <;> decide

/-- Settles O27: the mode by whether an edit fails, the entries as the edits were judged. -/
theorem batchIsAppliedByItsMode : Obligations.BatchIsAppliedByItsMode := by
  intro rt edits arming outcomes failed
  have hout : (applyEdits rt edits).2.map (fun e => some e.outcome) = outcomes := applyEdits_outcomes rt edits
  have hfailed : batchFails rt edits = true ↔ failed := batchFails_iff rt edits
  refine ⟨fun mode => ?_, ?_, ?_, isFailure_iff, fun mode k x e hx he => ⟨fun h hc => ?_, fun d leg b hc => ?_⟩,
    fun hf => ?_, fun hf => ?_⟩
  · obtain ⟨hmode, harming, -⟩ := applyBatch_result rt edits arming mode
    exact ⟨hmode, harming, applyBatch_kinds⟩
  · rw [applyBatch_each]
  · rw [applyBatch_each, hout]
  · exact applyBatch_entry_handle hx he hc
  · rcases applyBatch_entry_create hx he hc with ⟨hne, hzero⟩ | ⟨i, hi, ha, hh⟩
    · exact ⟨fun _ => hzero, fun ha => absurd ha hne⟩
    · obtain ⟨hfree, hbelow⟩ := lowestFree_spec hi
      refine ⟨fun hne => absurd ha hne, fun _ => ⟨i, hfree, fun j hj => Option.isSome_iff_ne_none.1 (hbelow j hj), ?_⟩⟩
      rw [hh, makeHandle_toNat]
  · have hb : batchFails rt edits = true := hfailed.2 hf
    rw [applyBatch_each, applyBatch_aborted rt edits arming hb, if_pos hb]
    refine ⟨rfl, rfl, rfl, ?_, fun e he hk => ?_⟩
    · rw [← hout, List.map_map, List.map_map]
      rfl
    · obtain ⟨e', -, rfl⟩ := List.mem_map.1 he
      exact abortEntry_create hk
  · have hb : ¬ batchFails rt edits = true := fun hb => hf (hfailed.1 hb)
    rw [applyBatch_each, applyBatch_whole rt edits arming hb, if_neg hb]
    exact ⟨rfl, rfl, rfl, rfl⟩

end Sys2Proof.Machine
end

section
/-!
Checks 3 and 4 of ADD_EDIT (R45 to R47, R181, R182): each field decoder answers a value exactly when its byte codes that value, and an edit
is answered exactly when each of its fields is.
-/
namespace Sys2Proof.Machine

/-! ## Single fields (R179, R181) -/

theorem decodeLegSource_eq_some {b : Byte} {src : LegSource} :
    decodeLegSource b = some src ↔ b = 255#8 ∧ src = .silence ∨ ∃ n : Fin 192, n.val = b.toNat ∧ src = .track n := by
  unfold decodeLegSource
  split
  · next hb =>
    have hno (n : Fin 192) : n.val ≠ 255 := by omega
    simp [hb, hno, eq_comm]
  · next hb => simp [hb, ← toIndex_eq_some, eq_comm]

theorem decodeRamp_eq_some {b : Byte} {c : Fin 8} : decodeRamp b = some c ↔ c.val = b.toNat := toIndex_eq_some

/-! ## The leg and the backup part of a CREATE (R45) -/

/-- A leg is answered exactly when each of its fields is, and carries no retire mark. -/
theorem decodeLeg_eq_some {l : RawLeg} {leg : Leg} :
    decodeLeg l = some leg ↔
      decodeLegSource l.source = some leg.source ∧ leg.mantissa = l.mantissa ∧ toIndex 3 l.boost.toNat = some leg.boost ∧
        toIndex 3841 l.delay.toNat = some leg.delay ∧ decodeRamp l.ramp = some leg.code ∧ leg.retire = false := by
  obtain ⟨src, m, b, d, c, mark⟩ := leg
  unfold decodeLeg
  split
  · next hs hb hd hc => simp [hs, hb, hd, hc, eq_comm]
  · next hnone =>
    refine iff_of_false nofun ?_
    rintro ⟨hs, -, hb, hd, hc, -⟩
    exact hnone _ _ _ _ hs hb hd hc

theorem decodeBackup_absent (bs tr fc : Byte) : decodeBackup 0#8 bs tr fc = some none := rfl

theorem decodeBackup_present {bs tr fc : Byte} {b : Option Backup} :
    decodeBackup 1#8 bs tr fc = some b ↔
      tr.toNat ≤ 3 ∧ ∃ (n : Fin 192) (c : Fin 8), n.val = bs.toNat ∧ c.val = fc.toNat ∧
        b = some ⟨n, tr.getLsbD 0, tr.getLsbD 1, c⟩ := by
  simp only [← toIndex_eq_some]
  rw [decodeBackup, if_neg (by decide), if_pos rfl]
  unfold decodeRamp
  split
  · next hn hc => simp [hn, hc, eq_comm]
  · next hnone =>
    refine iff_of_false nofun ?_
    rintro ⟨-, n, c, hn, hc, -⟩
    exact hnone n c hn hc

theorem decodeBackup_eq_some {pres bs tr fc : Byte} {b : Option Backup} :
    decodeBackup pres bs tr fc = some b ↔
      pres = 0#8 ∧ b = none ∨ pres = 1#8 ∧ tr.toNat ≤ 3 ∧ ∃ (n : Fin 192) (c : Fin 8), n.val = bs.toNat ∧ c.val = fc.toNat ∧
        b = some ⟨n, tr.getLsbD 0, tr.getLsbD 1, c⟩ := by
  by_cases h0 : pres = 0#8
  · subst h0
    simp [decodeBackup_absent, eq_comm]
  · by_cases h1 : pres = 1#8
    · subst h1
      rw [decodeBackup_present]
      simp
    · simp [decodeBackup, h0, h1]

/-! ## The fields that a MODIFY names (R46) -/

section
variable {α : Type} {named : Bool}

theorem decodeNamed_eq_some {field : Option α} {o : Option α} :
    decodeNamed named field = some o ↔ if named then ∃ x, field = some x ∧ o = some x else o = none := by
  cases named <;> simp [decodeNamed, eq_comm]

/-- A field with no bad value is answered whenever it is named. -/
theorem decodeNamed_some_eq_some {x : α} {o : Option α} :
    decodeNamed named (some x) = some o ↔ o = if named then some x else none := by
  cases named <;> simp [decodeNamed, eq_comm]

theorem decodeNamed_toIndex_eq_some {n k : Nat} {o : Option (Fin n)} :
    decodeNamed named (toIndex n k) = some o ↔ o.map (·.val) = if named then some k else none := by
  rw [decodeNamed_eq_some]
  cases named <;> cases o <;> simp [toIndex_eq_some]

theorem decodeNamed_legSource_eq_some {b : Byte} {o : Option LegSource} :
    decodeNamed named (decodeLegSource b) = some o ↔
      if named then b = 255#8 ∧ o = some .silence ∨ ∃ n : Fin 192, n.val = b.toNat ∧ o = some (.track n) else o = none := by
  rw [decodeNamed_eq_some]
  cases named <;> cases o <;> simp [decodeLegSource_eq_some]

end

/-- A field mask is in range when it names a field and its bits 5 to 7 are 0 (R182). -/
theorem fieldMask_ok_iff {mask : Byte} : ¬ (mask = 0#8 ∨ 32 ≤ mask.toNat) ↔ 1 ≤ mask.toNat ∧ mask.toNat < 32 := by
  rw [← BitVec.toNat_inj, BitVec.toNat_ofNat]
  omega

theorem decodePatch_eq_some {mask : Byte} {l : RawLeg} {p : LegPatch} :
    decodePatch mask l = some p ↔
      1 ≤ mask.toNat ∧ mask.toNat < 32 ∧
        decodeNamed (mask.getLsbD 0) (decodeLegSource l.source) = some p.source ∧
        decodeNamed (mask.getLsbD 1) (some l.mantissa) = some p.mantissa ∧
        decodeNamed (mask.getLsbD 2) (toIndex 3 l.boost.toNat) = some p.boost ∧
        decodeNamed (mask.getLsbD 3) (toIndex 3841 l.delay.toNat) = some p.delay ∧
        decodeNamed (mask.getLsbD 4) (decodeRamp l.ramp) = some p.code := by
  obtain ⟨src, m, b, d, c⟩ := p
  rw [← and_assoc, ← fieldMask_ok_iff]
  unfold decodePatch
  split
  · next hbad => exact iff_of_false nofun fun h => h.1 hbad
  · next hok =>
    split
    · next hs hm hb hd hc => simp only [hs, hm, hb, hd, hc, hok, Option.some.injEq, LegPatch.mk.injEq, not_false_eq_true, true_and]
    · next hnone =>
      refine iff_of_false nofun ?_
      rintro ⟨-, hs, hm, hb, hd, hc⟩
      exact hnone _ _ _ _ _ hs hm hb hd hc

/-! ## The four kinds (R44 to R47) -/

section
variable {e : Edit}

theorem decodeEdit_create {dest pres bs tr fc : Byte} {l : RawLeg} :
    decodeEdit (.create dest l pres bs tr fc) = some e ↔
      ∃ (d : Fin 192) (leg : Leg) (b : Option Backup), e = .create d leg b ∧ toIndex 192 dest.toNat = some d ∧
        decodeLeg l = some leg ∧ decodeBackup pres bs tr fc = some b := by
  rw [decodeEdit]
  split
  · next hd hl hb => simp [hd, hl, hb, eq_comm]
  · next hnone =>
    refine iff_of_false nofun ?_
    rintro ⟨d, leg, b, -, hd, hl, hb⟩
    exact hnone _ _ _ hd hl hb

theorem decodeEdit_modify {h : Handle} {mask : Byte} {l : RawLeg} :
    decodeEdit (.modify h mask l) = some e ↔ ∃ p, e = .modify h p ∧ decodePatch mask l = some p := by
  simp [decodeEdit, eq_comm, and_comm]

theorem decodeEdit_retire {h : Handle} {code : Byte} :
    decodeEdit (.retire h code) = some e ↔ ∃ c : Fin 8, c.val = code.toNat ∧ e = .retire h c := by
  simp [decodeEdit, ← toIndex_eq_some, eq_comm]

end

/-- Settles O23: an edit is answered exactly when each of its fields is. -/
theorem editFieldsHaveTheirRanges : Obligations.EditFieldsHaveTheirRanges := by
  refine ⟨fun dest l pres bs tr fc e => ?_, fun h mask l e => ?_, fun h code e => decodeEdit_retire, fun _ => rfl, fun _ => rfl⟩
  · simp only [decodeEdit_create, decodeLeg_eq_some, decodeLegSource_eq_some, decodeRamp_eq_some, decodeBackup_eq_some,
      toIndex_eq_some, and_assoc]
  · simp only [decodeEdit_modify, decodePatch_eq_some, decodeNamed_legSource_eq_some, decodeNamed_some_eq_some,
      decodeNamed_toIndex_eq_some, decodeRamp]
    constructor
    · rintro ⟨p, he, hnamed, hzero, hfields⟩
      exact ⟨hnamed, hzero, p, he, hfields⟩
    · rintro ⟨hnamed, hzero, p, he, hfields⟩
      exact ⟨p, he, hnamed, hzero, hfields⟩

end Sys2Proof.Machine
end

section
/-!
FAILOVER_TRIGGER (R70 to R79): what the taking of entries makes of a record, each condition as the spec words it, and one entry
taken alone.
-/
namespace Sys2Proof.Machine

/-! ## The conditions of failover -/

theorem isRetiring_iff (r : Record) : isRetiring r = true ↔ Retiring r := by
  unfold isRetiring Retiring
  cases r.phase <;> simp

theorem isUsable_iff (sources : Vector Source 192) (b : Backup) : isUsable sources b.source = true ↔ BackupUsable sources b := by
  simp [isUsable, BackupUsable]

/-- An entry matches when the primary and the latest leg read its source and its trigger is on (R72). -/
theorem matchesEntry_iff (taken : Taken) (r : Record) (b : Backup) :
    matchesEntry taken r b = true ↔
      ∃ n : Fin 192, r.primary = .track n ∧ (latestLeg r).source = .track n ∧
        (b.onLost = true ∧ taken.lost[n] = true ∨ b.onQuiet = true ∧ taken.quiet[n] = true) := by
  unfold matchesEntry
  cases (latestLeg r).source with
  | silence => simp
  | track n =>
    simp only [Bool.and_eq_true, Bool.or_eq_true, beq_iff_eq, LegSource.track.injEq]
    constructor
    · rintro ⟨hp, hon⟩
      exact ⟨n, hp, rfl, hon⟩
    · rintro ⟨_, hp, rfl, hon⟩
      exact ⟨hp, hon⟩

/-! ## A record as entries are taken (R72 to R78) -/

section
variable {sources : Vector Source 192} {taken : Taken} {r : Record} {b : Backup}

theorem failoverRecord_onLost (h : OnLostBackup (fun m => taken.lost[m]) r) :
    failoverRecord sources taken r = { r with notices := { r.notices with backupLost := true } } := by
  obtain ⟨hret, hon, b, hb, hlost⟩ := h
  rw [← isRetiring_iff] at hret
  simp only [failoverRecord, hb, if_neg hret, if_pos hon, if_pos hlost]

theorem failoverRecord_match (h : FailoverMatch (fun m => taken.lost[m]) (fun m => taken.quiet[m]) r b) :
    failoverRecord sources taken r =
      if isUsable sources b.source then takeBackup r b else { r with notices := { r.notices with backupUnusable := true } } := by
  obtain ⟨hb, hon, hret, hmatch⟩ := h
  rw [← isRetiring_iff] at hret
  simp only [failoverRecord, hb, if_neg hret, hon, if_pos ((matchesEntry_iff taken r b).2 hmatch), Bool.false_eq_true, if_false]

theorem failoverRecord_kept (hm : ∀ b, ¬ FailoverMatch (fun m => taken.lost[m]) (fun m => taken.quiet[m]) r b)
    (hl : ¬ OnLostBackup (fun m => taken.lost[m]) r) : failoverRecord sources taken r = r := by
  rcases failoverRecord_cases sources taken r with h | ⟨b, hb, hret, h⟩
  · exact h
  · have hret : ¬ Retiring r := by rw [← isRetiring_iff, hret]; exact Bool.false_ne_true
    rcases h with ⟨hon, hlost, -⟩ | ⟨hon, hmatch, -, -⟩ | ⟨hon, hmatch, -, -⟩
    · exact absurd ⟨hret, hon, b, hb, hlost⟩ hl
    · exact absurd ⟨hb, hon, hret, (matchesEntry_iff taken r b).1 hmatch⟩ (hm b)
    · exact absurd ⟨hb, hon, hret, (matchesEntry_iff taken r b).1 hmatch⟩ (hm b)

/-- A queued leg has its source swapped (R75). -/
theorem failoverLegs_queued {ramp : Ramp} {next : Leg} (h : r.phase = .ramping ramp (some next)) :
    failoverLegs r b = { r with phase := .ramping ramp (some { next with source := .track b.source }) } := by
  simp only [failoverLegs, h]

/-- A failover leg is queued behind a running ramp (R66, R74). -/
theorem failoverLegs_ramping {ramp : Ramp} (h : r.phase = .ramping ramp none) :
    failoverLegs r b = { r with phase := .ramping ramp (some (failoverLeg r b)) } := by
  simp only [failoverLegs, h, bringIn_ramping h, Option.getD_some]

/-- A failover leg on a LIVE record cuts or starts a ramp (R65, R74). -/
theorem failoverLegs_live (h : r.phase = .live) :
    failoverLegs r b = { r with
      current := failoverLeg r b
      phase := if b.code.val = 0 then .live else .ramping ⟨r.current, 2 ^ (b.code.val + 4), 0⟩ none } := by
  simp only [failoverLegs, h, bringIn_live h]
  have hcode : (failoverLeg r b).code = b.code := rfl
  by_cases hc : b.code.val = 0
  · rw [bringInLive_cut hc rfl, if_pos hc]
    rfl
  · rw [bringInLive_ramp hc, if_neg hc, hcode, rampLength, if_neg hc]
    rfl

/-- Step 3 makes of a record what the spec says (R72 to R78). -/
theorem failoverRecord_failedOver {lost quiet : Fin 192 → Bool} (hlost : ∀ m : Fin 192, taken.lost[m] = lost m)
    (hquiet : ∀ m : Fin 192, taken.quiet[m] = quiet m) : FailedOver sources lost quiet r (failoverRecord sources taken r) := by
  obtain rfl : (fun m : Fin 192 => taken.lost[m]) = lost := funext hlost
  obtain rfl : (fun m : Fin 192 => taken.quiet[m]) = quiet := funext hquiet
  refine ⟨fun b hm hu => ?_, fun b hm hu => ?_, failoverRecord_onLost, failoverRecord_kept⟩
  · rw [failoverRecord_match hm, if_pos ((isUsable_iff sources b).2 hu)]
    obtain ⟨-, -, hret, -⟩ := hm
    cases hp : r.phase with
    | live =>
      rw [takeBackup, failoverLegs_live hp]
      exact ⟨rfl, rfl, rfl⟩
    | ramping ramp next =>
      cases next with
      | none =>
        rw [takeBackup, failoverLegs_ramping hp]
        exact ⟨rfl, rfl, rfl⟩
      | some next =>
        rw [takeBackup, failoverLegs_queued hp]
        exact ⟨rfl, rfl, rfl⟩
    | retiring ramp => exact absurd ⟨ramp, hp⟩ hret
  · rw [← isUsable_iff] at hu
    rw [failoverRecord_match hm, if_neg hu]

end

/-! ## One entry taken alone (R70) -/

/-- The entry of one source and kind stands in the pending trigger set. -/
def entryStands (rt : RouteTable) (n : Fin 192) (kind : TriggerKind) : Bool :=
  match kind with
  | .lost => rt.pendingLost[n]
  | .quiet => rt.pendingQuiet[n]

/-- One entry, taken alone. -/
def oneEntry (n : Fin 192) (kind : TriggerKind) : Taken :=
  match kind with
  | .lost => ⟨bankSet (Vector.replicate 192 false) n true, Vector.replicate 192 false⟩
  | .quiet => ⟨Vector.replicate 192 false, bankSet (Vector.replicate 192 false) n true⟩

theorem bankSet_true_get (n m : Fin 192) : (bankSet (Vector.replicate 192 false) n true)[m] = (m == n) := by
  by_cases hm : m = n
  · subst hm; simp
  · simp [bankSet_other _ _ hm, hm]

theorem bankSet_false_get (v : Vector Bool 192) (n m : Fin 192) : (bankSet v n false)[m] = (v[m] && !(m == n)) := by
  by_cases hm : m = n
  · subst hm; simp
  · simp [bankSet_other _ _ hm, hm]

theorem oneEntry_lost (n m : Fin 192) (kind : TriggerKind) : (oneEntry n kind).lost[m] = (kind == .lost && m == n) := by
  cases kind with
  | lost => exact bankSet_true_get n m
  | quiet => exact Vector.getElem_replicate _

theorem oneEntry_quiet (n m : Fin 192) (kind : TriggerKind) : (oneEntry n kind).quiet[m] = (kind == .quiet && m == n) := by
  cases kind with
  | lost => exact Vector.getElem_replicate _
  | quiet => exact bankSet_true_get n m

section
variable {sources : Vector Source 192} {n : Fin 192} {kind : TriggerKind} {rt : RouteTable}

theorem takeTrigger_absent (h : entryStands rt n kind = false) : takeTrigger sources n kind rt = rt := by
  rw [← Bool.not_eq_true] at h
  cases kind with
  | lost => exact if_neg h
  | quiet => exact if_neg h

theorem takeTrigger_lost (h : entryStands rt n .lost = true) :
    takeTrigger sources n .lost rt =
      { failover sources (oneEntry n .lost) rt with pendingLost := bankSet rt.pendingLost n false } := by
  rw [entryStands] at h
  simp only [takeTrigger, oneEntry, if_pos h]

theorem takeTrigger_quiet (h : entryStands rt n .quiet = true) :
    takeTrigger sources n .quiet rt =
      { failover sources (oneEntry n .quiet) rt with pendingQuiet := bankSet rt.pendingQuiet n false } := by
  rw [entryStands] at h
  simp only [takeTrigger, oneEntry, if_pos h]

/-- An entry that stands in the set is taken: it leaves the set, and every record is judged by it. -/
theorem takeTrigger_stands (h : entryStands rt n kind = true) :
    takeTrigger sources n kind rt = { rt with
      slots := (failover sources (oneEntry n kind) rt).slots
      pendingLost := (takeTrigger sources n kind rt).pendingLost
      pendingQuiet := (takeTrigger sources n kind rt).pendingQuiet } := by
  cases kind with
  | lost => rw [takeTrigger_lost h, failover]
  | quiet => rw [takeTrigger_quiet h, failover]

/-- The entry, and no other, leaves the set (R70). -/
theorem takeTrigger_pending (h : entryStands rt n kind = true) (m : Fin 192) :
    (takeTrigger sources n kind rt).pendingLost[m] = (rt.pendingLost[m] && !(kind == .lost && m == n)) ∧
      (takeTrigger sources n kind rt).pendingQuiet[m] = (rt.pendingQuiet[m] && !(kind == .quiet && m == n)) := by
  cases kind with
  | lost =>
    rw [takeTrigger_lost h, failover_pendingQuiet]
    exact ⟨bankSet_false_get _ n m, (Bool.and_true _).symm⟩
  | quiet =>
    rw [takeTrigger_quiet h, failover_pendingLost]
    exact ⟨(Bool.and_true _).symm, bankSet_false_get _ n m⟩

/-- A slot when an entry is taken: its record, if it holds one, is judged. -/
theorem takeTrigger_slot (h : entryStands rt n kind = true) (i : Fin 160) :
    (takeTrigger sources n kind rt).slots[i] =
      { rt.slots[i] with record := rt.slots[i].record.map (failoverRecord sources (oneEntry n kind)) } := by
  rw [takeTrigger_stands h, failover_slots]
  exact bankMap_get _ _ _ _

end

/-- Settles O35: the entry out of the set, or every record judged by it alone. -/
theorem failoverTriggerJudgesEveryRecord : Obligations.FailoverTriggerJudgesEveryRecord := by
  intro n kind s hr inSet
  have hin : inSet = entryStands s.route n kind := by cases kind <;> rfl
  have hdone := doneWith_of_event (exec_failoverTrigger n kind s) hr
  refine ⟨fun h => exec_eq_self_of_doneWith hdone ?_, fun h => ?_⟩
  · rw [takeTrigger_absent (hin.symm.trans h)]
  · have hstands : entryStands s.route n kind = true := hin.symm.trans h
    refine ⟨_, hdone, ?_, takeTrigger_pending hstands, fun i hi => ?_, fun i r hi => ⟨_, ?_,
      failoverRecord_failedOver (fun m => oneEntry_lost n m kind) fun m => oneEntry_quiet n m kind⟩⟩
    · rw [takeTrigger_stands hstands]
    · rw [takeTrigger_slot hstands, hi, Option.map_none, ← hi]
    · rw [takeTrigger_slot hstands, hi, Option.map_some]

end Sys2Proof.Machine
end

section
/-!
The rows that do one source's work of a tick by itself (R99 to R101; log 3): SOURCE_RUNNING, CLOSE_MARK_TAKEN, LOSS_TIMER_EXPIRY.
-/
namespace Sys2Proof.Machine

/-! ## What becomes of a source -/

section
variable {st : MonitorSettings} {src : Source}

/-- The 0 of a silent tick leaves the meter as it is (R90). -/
theorem writeSample_zero (src : Source) : writeSample 0#24 src = { src with ring := writeRing 0#24 src.ring } := by
  simp [writeSample, meterTake, magnitude]

/-- The source's own work makes it LOST: STARVED with too few entries and no close mark, as its timer counts from 1 (R101). -/
abbrev EntersLost (src : Source) : Prop :=
  src.state = .starved ∧ src.fifo.length < 8 ∧ .closeMark ∉ src.fifo ∧ ∃ c, src.timer = some c ∧ c ≤ 1

theorem enteredLost_iff_entersLost (st : MonitorSettings) (src : Source) :
    (sourceWork st src).enteredLost = true ↔ EntersLost src := by
  rw [enteredLost_iff, ← Bool.not_eq_true, ← Bool.not_eq_true, isPrimed_iff, holdsClose_iff, not_le]

theorem not_takesHead_of_entersLost (h : EntersLost src) : ¬ TakesHead src := by
  obtain ⟨hs, hl, -, -⟩ := h
  rintro (hr | ⟨-, hp⟩)
  · simp [hs] at hr
  · omega

theorem not_feedEnds_of_entersLost (h : EntersLost src) : ¬ FeedEnds src := by
  obtain ⟨-, -, hc, -⟩ := id h
  rintro (⟨ht, -⟩ | ⟨-, -, hm⟩)
  · exact not_takesHead_of_entersLost h ht
  · exact hc hm

theorem sourceWork_entersLost (h : EntersLost src) :
    (sourceWork st src).source = { src with
      state := .lost, timer := none, underrun := min (src.underrun + 1) 65535, ring := writeRing 0#24 src.ring
      changeFlag := src.changeFlag || (src.changeEnable && st.lostEdges != .leave) } := by
  rw [sourceWork_rests (not_takesHead_of_entersLost h) (not_feedEnds_of_entersLost h)]
  obtain ⟨hs, -, -, c, hc, hle⟩ := h
  simp [waitWork, starve, writeSample_zero, markEdge, satAdd, selectsEnter_eq, hs, hc, hle, Bool.and_comm]

/-- A source that plays a sample goes on. -/
theorem not_feedEnds_of_plays {x : Sample} {rest : List Arrival} (ht : TakesHead src) (hf : src.fifo = .sample x :: rest) :
    ¬ FeedEnds src := by
  rintro (⟨-, hh⟩ | ⟨hw, hl, -⟩)
  · simp [hf] at hh
  · rcases ht with hr | ⟨-, hp⟩
    · simp [Waits, hr] at hw
    · omega

/-- A waiting source that becomes RUNNING, its loss timer stopped (R99). -/
theorem sourceWork_becomesRunning {x : Sample} {rest : List Arrival} (hw : Waits src) (hf : src.fifo = .sample x :: rest)
    (hl : 8 ≤ src.fifo.length) :
    (sourceWork st src).source = { src with
      state := .running, fifo := rest, timer := none, ring := writeRing x src.ring
      meter := { src.meter with running := max src.meter.running (min x.toInt.natAbs 8388607) }
      changeFlag := src.changeFlag || lostLeft st src } := by
  have hr : src.state ≠ .running := by rcases hw with h | h | h <;> simp [h]
  rw [sourceWork_plays (.inr ⟨hw, hl⟩) hf, if_neg hr]
  rfl

/-- Where the feed of a source ends as its row takes it alone: a mark at the head of a RUNNING one, or the oldest mark of a
waiting one with fewer than 8 entries (R99, R100). -/
abbrev EndsAt (src : Source) (before rest : List Arrival) : Prop :=
  src.state = .running ∧ before = [] ∨ Waits src ∧ before.length + rest.length < 7 ∧ ∀ e ∈ before, e ≠ .closeMark

section
variable {before rest : List Arrival} (hat : EndsAt src before rest) (hf : src.fifo = before ++ .closeMark :: rest)
include hat hf

theorem EndsAt.takesHead_iff : TakesHead src ↔ src.state = .running := by
  refine ⟨fun h => ?_, .inl⟩
  rcases hat with ⟨hr, -⟩ | ⟨-, hl, -⟩
  · exact hr
  · refine h.resolve_right fun ⟨_, hp⟩ => ?_
    rw [hf, List.length_append, List.length_cons] at hp
    omega

theorem EndsAt.feedEnds : FeedEnds src := by
  rcases hat with ⟨hr, rfl⟩ | ⟨hw, hl, -⟩
  · exact .inl ⟨.inl hr, by rw [hf]; rfl⟩
  · refine .inr ⟨hw, ?_, ?_⟩
    · rw [hf, List.length_append, List.length_cons]
      omega
    · simp [hf]

theorem sourceWork_endsAt :
    (sourceWork st src).source = { src with
      state := if rest = [] then .idle else .priming
      fifo := rest
      ring := writeRing 0#24 src.ring
      timer := if src.state = .running then src.timer else none
      quiet := if src.state = .running then false else src.quiet
      quietCount := if src.state = .running then 0 else src.quietCount
      changeFlag := src.changeFlag || if src.state = .running then quietLeft st src else lostLeft st src } := by
  have hb : .closeMark ∉ before := by
    rcases hat with ⟨-, rfl⟩ | ⟨-, -, hb⟩
    · exact List.not_mem_nil
    · exact fun hm => hb _ hm rfl
  rw [sourceWork_ends (hat.feedEnds hf) hf hb, writeSample_zero]
  simp only [hat.takesHead_iff hf]
  by_cases hr : src.state = .running
  · simp [lostLeft_eq, hr]
  · simp [hr]

end

/-- A waiting source with 8 or more entries and a close mark at the head becomes RUNNING and takes it at once (R99, R100). -/
theorem sourceWork_primedClose {rest : List Arrival} (hw : Waits src) (hf : src.fifo = .closeMark :: rest)
    (hl : 7 ≤ rest.length) :
    (sourceWork st src).source = { src with
      state := .priming, fifo := rest, ring := writeRing 0#24 src.ring, timer := none, quiet := false, quietCount := 0
      changeFlag := src.changeFlag || lostLeft st src || quietLeft st src } := by
  have ht : TakesHead src := .inr ⟨hw, by rw [hf, List.length_cons]; omega⟩
  have hr : src.state ≠ .running := by rcases hw with h | h | h <;> simp [h]
  have hne : rest ≠ [] := by rintro rfl; simp at hl
  rw [sourceWork_ends (before := []) (.inl ⟨ht, by rw [hf]; rfl⟩) hf List.not_mem_nil, writeSample_zero]
  simp only [if_neg hr, if_pos ht, if_neg hne, decide_eq_true ht, Bool.true_and]

end

/-! ## What becomes of the part -/

/-- LOST entries added to the pending trigger set (R70). -/
theorem addTriggers_lost (rt : RouteTable) (l : Fin 192 → Bool) :
    addTriggers rt l (fun _ => false) = { rt with pendingLost := bankMapIdx (fun n old => old || l n) rt.pendingLost } := by
  rw [addTriggers, bankMapIdx_id_of (v := rt.pendingQuiet) fun _ => Bool.or_false _]

/-- The Source Monitor when one source does its work. -/
def monitorAfter (n : Fin 192) (m : SourceMonitor) : SourceMonitor :=
  { m with sources := bankSet m.sources n (sourceWork m.settings m.sources[n]).source }

theorem monitorAfter_self (n : Fin 192) (m : SourceMonitor) :
    (monitorAfter n m).sources[n] = (sourceWork m.settings m.sources[n]).source := bankSet_get_self _ _ _

theorem monitorAfter_other {n k : Fin 192} (m : SourceMonitor) (h : k ≠ n) : (monitorAfter n m).sources[k] = m.sources[k] :=
  bankSet_other _ _ h

section
variable {n : Fin 192} {s : State}

/-- A source that goes on and does not become LOST reaches no other block. -/
theorem workOne_alone (hf : ¬ FeedEnds s.monitor.sources[n]) (hl : ¬ EntersLost s.monitor.sources[n]) :
    workOne n s = { s with monitor := monitorAfter n s.monitor } := by
  rw [← becameIdle_iff s.monitor.settings] at hf
  rw [← enteredLost_iff_entersLost s.monitor.settings, Bool.not_eq_true] at hl
  rw [workOne, addTriggers_lost, hl, if_neg hf, bankMapIdx_id_of fun _ => by rw [Bool.and_false, Bool.or_false]]
  rfl

/-- A feed that ends takes the bundle's reference with it (R127). -/
theorem workOne_ends (hf : FeedEnds s.monitor.sources[n]) :
    workOne n s = { s with monitor := monitorAfter n s.monitor, lanes := bankMapIdx (resetReferencesOf n) s.lanes } := by
  have hl : ¬ EntersLost s.monitor.sources[n] := fun h => not_feedEnds_of_entersLost h hf
  rw [← becameIdle_iff s.monitor.settings] at hf
  rw [← enteredLost_iff_entersLost s.monitor.settings, Bool.not_eq_true] at hl
  rw [workOne, addTriggers_lost, hl, if_pos hf, bankMapIdx_id_of fun _ => by rw [Bool.and_false, Bool.or_false]]
  rfl

/-- A source that becomes LOST adds its entry (R70). -/
theorem workOne_lost (h : EntersLost s.monitor.sources[n]) :
    workOne n s = { s with
      monitor := monitorAfter n s.monitor
      route := { s.route with pendingLost := bankMapIdx (fun k old => old || decide (k = n)) s.route.pendingLost } } := by
  have hf := not_feedEnds_of_entersLost h
  rw [← becameIdle_iff s.monitor.settings] at hf
  rw [← enteredLost_iff_entersLost s.monitor.settings] at h
  rw [workOne, addTriggers_lost, h, if_neg hf]
  simp only [Bool.and_true]
  rfl

theorem resetReferencesOf_frame (lanes : Vector Lane 8) (n : Fin 192) (a : Fin 8) :
    (bankMapIdx (resetReferencesOf n) lanes)[a] =
      { lanes[a] with inBundles := (bankMapIdx (resetReferencesOf n) lanes)[a].inBundles } := by
  simp only [Fin.getElem_fin, bankMapIdx_get, resetReferencesOf]

/-- Source n is track A or B of bundle n ÷ 2, counted over the lanes (R1, R127). -/
theorem resetReferencesOf_bundle (lanes : Vector Lane 8) (n : Fin 192) (a j : Fin 8) :
    (bankMapIdx (resetReferencesOf n) lanes)[a].inBundles[j] =
      if n.val / 2 = a.val * 8 + j.val then { lanes[a].inBundles[j] with seqRef := none } else lanes[a].inBundles[j] := by
  have hof : (trackA a j = n ∨ trackB a j = n) ↔ n.val / 2 = a.val * 8 + j.val := by
    simp only [trackA, trackB, Fin.ext_iff]
    omega
  simp only [Fin.getElem_fin, bankMapIdx_get, resetReferencesOf, Fin.eta, hof]

/-! ## The three rows -/

variable (hr : s.rstLow = false)
include hr

theorem doneWith_sourceRunning (hw : Waits s.monitor.sources[n]) (hl : 8 ≤ s.monitor.sources[n].fifo.length) :
    DoneWith (.sourceRunning n) s (workOne n s) := by
  have h := doneWith_of_event (exec_sourceRunning n s) hr
  rwa [(isWaiting_iff _).2 hw, (isPrimed_iff _).2 hl] at h

theorem exec_sourceRunning_not (h : ¬ Waits s.monitor.sources[n] ∨ s.monitor.sources[n].fifo.length < 8) :
    exec (.sourceRunning n) s = .next s := by
  refine exec_eq_self_of_doneWith (doneWith_of_event (exec_sourceRunning n s) hr) (if_neg ?_)
  rw [Bool.and_eq_true, isWaiting_iff, isPrimed_iff]
  rintro ⟨hw, hl⟩
  exact h.elim (absurd hw) hl.not_gt

theorem doneWith_closeMarkTaken (hf : FeedEnds s.monitor.sources[n]) : DoneWith (.closeMarkTaken n) s (workOne n s) := by
  have h := doneWith_of_event (exec_closeMarkTaken n s) hr
  rwa [(becameIdle_iff _ _).2 hf] at h

theorem exec_closeMarkTaken_not (hf : ¬ FeedEnds s.monitor.sources[n]) : exec (.closeMarkTaken n) s = .next s := by
  rw [← becameIdle_iff s.monitor.settings] at hf
  exact exec_eq_self_of_doneWith (doneWith_of_event (exec_closeMarkTaken n s) hr) (if_neg hf)

theorem doneWith_lossTimerExpiry (hl : EntersLost s.monitor.sources[n]) : DoneWith (.lossTimerExpiry n) s (workOne n s) := by
  have h := doneWith_of_event (exec_lossTimerExpiry n s) hr
  rwa [(enteredLost_iff_entersLost _ _).2 hl] at h

theorem exec_lossTimerExpiry_not (hl : ¬ EntersLost s.monitor.sources[n]) : exec (.lossTimerExpiry n) s = .next s := by
  rw [← enteredLost_iff_entersLost s.monitor.settings] at hl
  exact exec_eq_self_of_doneWith (doneWith_of_event (exec_lossTimerExpiry n s) hr) (if_neg hl)

end

/-- Settles O42: each row where its condition holds, by what becomes of the source and of the blocks its work reaches. -/
theorem sourceEventsDoTheSourcesWork : Obligations.SourceEventsDoTheSourcesWork := by
  intro n s hr src waiting left qleft
  refine ⟨fun x rest hw hf hl => ?_, exec_sourceRunning_not hr, fun before rest hat hf => ?_, exec_closeMarkTaken_not hr,
    fun rest hw hf hl => ?_, fun hs hl hc ht => ?_, fun h => exec_lossTimerExpiry_not hr ?_⟩
  · have hlen : 8 ≤ src.fifo.length := by rw [hf, List.length_cons]; omega
    have htake : TakesHead src := .inr ⟨hw, hlen⟩
    have hdone := doneWith_sourceRunning hr hw hlen
    rw [workOne_alone (not_feedEnds_of_plays htake hf) fun h => not_takesHead_of_entersLost h htake] at hdone
    exact ⟨_, hdone, rfl, fun k => monitorAfter_other _,
      (monitorAfter_self n s.monitor).trans (sourceWork_becomesRunning hw hf hlen)⟩
  · have he : FeedEnds src := EndsAt.feedEnds hat hf
    have hdone := doneWith_closeMarkTaken hr he
    rw [workOne_ends he] at hdone
    exact ⟨_, _, hdone, rfl, fun k => monitorAfter_other _, (monitorAfter_self n s.monitor).trans (sourceWork_endsAt hat hf),
      resetReferencesOf_frame _ n, resetReferencesOf_bundle _ n⟩
  · have hlen : 8 ≤ src.fifo.length := by rw [hf, List.length_cons]; omega
    have he : FeedEnds src := .inl ⟨.inr ⟨hw, hlen⟩, by rw [hf]; rfl⟩
    have hdone := doneWith_sourceRunning hr hw hlen
    refine ⟨(doneWith_closeMarkTaken hr he).trans hdone.symm, ?_⟩
    rw [workOne_ends he] at hdone
    exact ⟨_, _, hdone, rfl, fun k => monitorAfter_other _,
      (monitorAfter_self n s.monitor).trans (sourceWork_primedClose hw hf hl), resetReferencesOf_frame _ n,
      resetReferencesOf_bundle _ n⟩
  · have hlost : EntersLost src := ⟨hs, hl, hc, 1, ht, le_rfl⟩
    have hdone := doneWith_lossTimerExpiry hr hlost
    rw [workOne_lost hlost] at hdone
    exact ⟨_, _, hdone, rfl, fun k => monitorAfter_other _, (monitorAfter_self n s.monitor).trans (sourceWork_entersLost hlost),
      fun k => bankMapIdx_get _ _ _ _⟩
  · rintro ⟨hs, -, -, c, hc, hle⟩
    rcases h with h | h | ⟨d, h, hd⟩
    · exact h hs
    · rw [h] at hc; cases hc
    · rw [h] at hc
      cases hc
      omega

end Sys2Proof.Machine
end

section
/-!
SAMPLE_TICK at the Source Monitor (R96 to R104): every source's own work, with the pushes of its desk port before it or after it.
-/
namespace Sys2Proof.Machine

/-! ## Arrivals (R96, R97) -/

section
variable {src : Source}

/-- An entry joins the FIFO of a source that is not IDLE, or is counted at a full one (R96). -/
theorem arrive_notIdle (h : src.state ≠ .idle) (e : Arrival) :
    arrive src e = if src.fifo.length < 16 then { src with fifo := src.fifo ++ [e] }
      else { src with overrun := min (src.overrun + 1) 65535 } := by
  unfold arrive
  split
  · contradiction
  all_goals rfl

/-- A sample makes an IDLE source PRIMING and joins the FIFO of a PRIMING one (R97). -/
theorem arrive_primes (h : src.state = .idle ∨ src.state = .priming) (hl : src.fifo.length < 16) (y : Sample) :
    arrive src (.sample y) = { src with state := .priming, fifo := src.fifo ++ [.sample y] } := by
  have hj : joinFifo src (.sample y) = { src with fifo := src.fifo ++ [.sample y] } := if_pos hl
  rcases h with h | h
  · simp only [arrive, h, hj]
  · simp only [arrive, h, hj]

/-- Arrivals reach neither the ring, the meter nor the change enable, and bring no source into or out of RUNNING,
STARVED or LOST. -/
theorem arrive_keeps (src : Source) (e : Arrival) :
    (arrive src e).ring = src.ring ∧ (arrive src e).meter = src.meter ∧ (arrive src e).changeEnable = src.changeEnable ∧
      ∀ q : SourceState, q ≠ .idle → q ≠ .priming → ((arrive src e).state = q ↔ src.state = q) := by
  by_cases h : src.state = .idle
  · cases e with
    | closeMark => simp [arrive, h]
    | sample x =>
      rcases joinFifo_cases src (.sample x) with ⟨-, hj⟩ | ⟨-, hj⟩ <;>
        simp +contextual [arrive, h, hj, eq_comm]
  · rw [arrive_notIdle h]
    split <;> simp

theorem arriveAll_keeps (src : Source) (es : List Arrival) :
    (arriveAll src es).ring = src.ring ∧ (arriveAll src es).meter = src.meter ∧
      (arriveAll src es).changeEnable = src.changeEnable ∧
      ∀ q : SourceState, q ≠ .idle → q ≠ .priming → ((arriveAll src es).state = q ↔ src.state = q) := by
  induction es generalizing src with
  | nil => exact ⟨rfl, rfl, rfl, fun _ _ _ => Iff.rfl⟩
  | cons e es ih =>
    obtain ⟨h1, h2, h3, h4⟩ := arrive_keeps src e
    obtain ⟨i1, i2, i3, i4⟩ := ih (arrive src e)
    exact ⟨i1.trans h1, i2.trans h2, i3.trans h3, fun q hi hp => (i4 q hi hp).trans (h4 q hi hp)⟩

end

/-! ## The work of a source, read off its cases (R98 to R102) -/

/-- Where a source stands as its work begins: it plays a sample, starves, ends its feed, or rests. -/
theorem source_position (src : Source) :
    (TakesHead src ∧ ∃ x rest, src.fifo = .sample x :: rest) ∨ (src.state = .running ∧ src.fifo = []) ∨
      (FeedEnds src ∧ ∃ before rest, src.fifo = before ++ .closeMark :: rest ∧ .closeMark ∉ before) ∨
      ¬ TakesHead src ∧ ¬ FeedEnds src := by
  by_cases he : FeedEnds src
  · have hm : .closeMark ∈ src.fifo := he.elim (fun h => List.mem_of_mem_head? h.2) fun h => h.2.2
    exact .inr (.inr (.inl ⟨he, List.eq_append_cons_of_mem hm⟩))
  · by_cases ht : TakesHead src
    · cases hf : src.fifo with
      | nil =>
        refine .inr (.inl ⟨ht.resolve_right fun h => ?_, rfl⟩)
        simp [hf] at h
      | cons e rest =>
        cases e with
        | sample x => exact .inl ⟨ht, x, rest, rfl⟩
        | closeMark => exact absurd (.inl ⟨ht, by rw [hf]; rfl⟩) he
    · exact .inr (.inr (.inr ⟨ht, he⟩))

section
variable {st : MonitorSettings} {src src' : Source}

/-- A source that rests keeps its FIFO, its change enable and its state, but that a STARVED one may become LOST (R101). -/
theorem Worked.rests (w : Worked st src src') (ht : ¬ TakesHead src) (he : ¬ FeedEnds src) :
    src'.fifo = src.fifo ∧ src'.changeEnable = src.changeEnable ∧
      (src'.state = src.state ∨ src.state = .starved ∧ src'.state = .lost ∧ ∃ c, src.timer = some c ∧ c ≤ 1) := by
  by_cases hs : src.state = .starved
  · obtain ⟨hnone, hruns, hends⟩ := w.starves ht he hs
    cases hc : src.timer with
    | none =>
      rw [hnone hc]
      exact ⟨rfl, rfl, .inl rfl⟩
    | some c =>
      by_cases hle : c ≤ 1
      · rw [hends c hc hle]
        exact ⟨rfl, rfl, .inr ⟨hs, rfl, c, rfl, hle⟩⟩
      · rw [hruns c hc (by omega)]
        exact ⟨rfl, rfl, .inl rfl⟩
  · rw [w.waits ht he hs]
    exact ⟨rfl, rfl, .inl rfl⟩

theorem Worked.changeEnable (w : Worked st src src') : src'.changeEnable = src.changeEnable := by
  rcases source_position src with ⟨ht, x, rest, hf⟩ | ⟨hr, hf⟩ | ⟨he, before, rest, hf, hb⟩ | ⟨ht, he⟩
  · rw [(w.plays x rest ht hf).2]
  · rw [w.starts hr hf]
  · rw [w.ends before rest he hf hb]
  · exact (w.rests ht he).2.1

/-- The only way into LOST is out of STARVED, as the timer ends (R101). -/
theorem Worked.entersLost (w : Worked st src src') (hs : src.state ≠ .lost) (hl : src'.state = .lost) : EntersLost src := by
  rcases source_position src with ⟨ht, x, rest, hf⟩ | ⟨hr, hf⟩ | ⟨he, before, rest, hf, hb⟩ | ⟨ht, he⟩
  · rw [(w.plays x rest ht hf).2] at hl
    cases hl
  · rw [w.starts hr hf] at hl
    cases hl
  · rw [w.ends before rest he hf hb] at hl
    dsimp only at hl
    split at hl <;> cases hl
  · obtain ⟨-, -, h | ⟨hst, -, hc⟩⟩ := w.rests ht he
    · exact absurd (h.symm.trans hl) hs
    · have hw : Waits src := .inr (.inl hst)
      have hlen : src.fifo.length < 8 := not_le.1 fun h => ht (.inr ⟨hw, h⟩)
      exact ⟨hst, hlen, fun hm => he (.inr ⟨hw, hlen, hm⟩), hc⟩

/-- The work makes a source LOST exactly when it was not LOST and then is (R70). -/
theorem enteredLost_iff_becomesLost (st : MonitorSettings) (src : Source) :
    (sourceWork st src).enteredLost = true ↔ src.state ≠ .lost ∧ (sourceWork st src).source.state = .lost := by
  rw [enteredLost_iff_entersLost]
  constructor
  · intro h
    rw [sourceWork_entersLost h, h.1]
    exact ⟨nofun, rfl⟩
  · rintro ⟨hs, hl⟩
    exact (sourceWork_worked st src).entersLost hs hl

/-- The ring and the meter take the sample of the work whatever arrives before it and after it (R83, R98). -/
theorem Worked.with_arrivals {first : List Arrival} (w : Worked st (arriveAll src first) src') (last : List Arrival) :
    (∀ d, d < 4095 → readRing (arriveAll src' last).ring (d + 1) = readRing src.ring d) ∧
      ((arriveAll src' last).state ≠ .running → readRing (arriveAll src' last).ring 0 = 0#24) ∧
      (arriveAll src' last).meter = { src.meter with
        running := max src.meter.running (min (readRing (arriveAll src' last).ring 0).toInt.natAbs 8388607) } ∧
      (arriveAll src' last).changeEnable = src.changeEnable := by
  obtain ⟨hring, hmeter, henable, -⟩ := arriveAll_keeps src first
  obtain ⟨hring', hmeter', henable', hstate'⟩ := arriveAll_keeps src' last
  rw [hring', hmeter', henable', Ne, hstate' .running nofun nofun, ← hring, ← hmeter, ← henable]
  exact ⟨w.older, w.silent, w.meter, w.changeEnable⟩

theorem not_takesHead_of_few (hr : src.state ≠ .running) (hl : src.fifo.length < 8) : ¬ TakesHead src := by
  rintro (h | ⟨-, h⟩)
  · exact hr h
  · omega

theorem not_feedEnds_of_no_mark (hc : .closeMark ∉ src.fifo) : ¬ FeedEnds src := by
  rintro (⟨-, h⟩ | ⟨-, -, h⟩)
  · exact hc (List.mem_of_mem_head? h)
  · exact hc h

/-- A source that is IDLE or PRIMING, with fewer than 8 entries and no close mark, keeps its state and its FIFO (R98, R99). -/
theorem Worked.stays (w : Worked st src src') (hs : src.state = .idle ∨ src.state = .priming) (hl : src.fifo.length < 8)
    (hc : .closeMark ∉ src.fifo) : src'.state = src.state ∧ src'.fifo = src.fifo := by
  have hr : src.state ≠ .running := by rcases hs with h | h <;> simp [h]
  have hst : src.state ≠ .starved := by rcases hs with h | h <;> simp [h]
  rw [w.waits (not_takesHead_of_few hr hl) (not_feedEnds_of_no_mark hc) hst]
  exact ⟨rfl, rfl⟩

end

/-! ## The pushes of a desk port (R104, R185) -/

section
variable (port : DeskIn) (arrived : List Sample) (slot : Nat)

theorem deskPushed_eq :
    deskPushed port arrived slot = ((pushedFrame port arrived).map fun frame => .sample (frame.getD slot 0#24)).toList := by
  unfold deskPushed pushedFrame
  cases port.shift <;> rfl

/-- A desk port pushes nothing or one sample at each of its sources. -/
theorem deskPushed_cases :
    port.shift = .nothing ∧ deskPushed port arrived slot = [] ∨
      port.shift ≠ .nothing ∧ ∃ y, deskPushed port arrived slot = [.sample y] := by
  unfold deskPushed
  cases port.shift <;> simp

/-- The frame a port pushes is the one it shifted in or the one it holds. -/
theorem deskPushed_frame {frame : List Sample} (h : port.shift = .shifting ∧ frame = arrived ∨ port.shift = .held frame) :
    deskPushed port arrived slot = [.sample (frame.getD slot 0#24)] := by
  rcases h with ⟨h, rfl⟩ | h <;> rw [deskPushed, h]

end

section
variable {st : MonitorSettings} {src src' : Source} {x y : Sample} {rest : List Arrival}

/-- The eighth entry, pushed before the work, brings a waiting source to RUNNING (R99, R104). -/
theorem Worked.plays_eighth (w : Worked st (arriveAll src [.sample y]) src') (hw : Waits src) (hf : src.fifo = .sample x :: rest)
    (hl : rest.length = 6) : src'.state = .running ∧ readRing src'.ring 0 = x ∧ src'.fifo = rest ++ [.sample y] := by
  have hi : src.state ≠ .idle := by rcases hw with h | h | h <;> simp [h]
  have hlen : src.fifo.length = 7 := by rw [hf, List.length_cons, hl]
  have hjoin : arriveAll src [.sample y] = { src with fifo := src.fifo ++ [.sample y] } :=
    (arrive_notIdle hi (.sample y)).trans (if_pos (by omega))
  rw [hjoin] at w
  obtain ⟨hring, hsrc⟩ := w.plays x (rest ++ [.sample y]) (.inr ⟨hw, by simp [hlen]⟩) (by simp [hf])
  rw [hsrc]
  exact ⟨rfl, hring, rfl⟩

/-- A waiting source with 7 entries waits on, and the eighth joins behind them (R99, R104). -/
theorem Worked.waits_for_eighth (w : Worked st src src') (hw : Waits src) (hf : src.fifo = .sample x :: rest)
    (hl : rest.length = 6) (hc : .closeMark ∉ src.fifo) :
    (arriveAll src' [.sample y]).state ≠ .running ∧ (arriveAll src' [.sample y]).fifo = .sample x :: (rest ++ [.sample y]) := by
  have hlen : src.fifo.length = 7 := by rw [hf, List.length_cons, hl]
  have hr : src.state ≠ .running := by rcases hw with h | h | h <;> simp [h]
  obtain ⟨hfifo, -, hstate⟩ := w.rests (not_takesHead_of_few hr (by omega)) (not_feedEnds_of_no_mark hc)
  have hw' : Waits src' := by
    rcases hstate with h | ⟨-, h, -⟩
    · rwa [Waits, h]
    · exact .inr (.inr h)
  have hi : src'.state ≠ .idle := by rcases hw' with h | h | h <;> simp [h]
  have hjoin : arriveAll src' [.sample y] = { src' with fifo := src'.fifo ++ [.sample y] } :=
    (arrive_notIdle hi (.sample y)).trans (if_pos (by rw [hfifo]; omega))
  rw [hjoin, hfifo, hf]
  refine ⟨?_, rfl⟩
  rcases hw' with h | h | h <;> simp [h]

/-- An IDLE or PRIMING source primes with the sample pushed, before the work or after it (R97, R104). -/
theorem Worked.primes_pushFirst (w : Worked st (arriveAll src [.sample y]) src') (hs : src.state = .idle ∨ src.state = .priming)
    (hl : src.fifo.length ≤ 6) (hc : .closeMark ∉ src.fifo) :
    src'.state = .priming ∧ src'.fifo = src.fifo ++ [.sample y] := by
  have hjoin : arriveAll src [.sample y] = { src with state := .priming, fifo := src.fifo ++ [.sample y] } :=
    arrive_primes hs (by omega) y
  rw [hjoin] at w
  exact w.stays (.inr rfl) (by simp; omega) (by simpa using hc)

theorem Worked.primes_workFirst (w : Worked st src src') (hs : src.state = .idle ∨ src.state = .priming)
    (hl : src.fifo.length ≤ 6) (hc : .closeMark ∉ src.fifo) :
    (arriveAll src' [.sample y]).state = .priming ∧ (arriveAll src' [.sample y]).fifo = src.fifo ++ [.sample y] := by
  obtain ⟨hstate, hfifo⟩ := w.stays hs (by omega) hc
  have hjoin : arriveAll src' [.sample y] = { src' with state := .priming, fifo := src'.fifo ++ [.sample y] } :=
    arrive_primes (by rwa [hstate]) (by rw [hfifo]; omega) y
  rw [hjoin, hfifo]
  exact ⟨rfl, rfl⟩

/-- A source that plays plays the same sample with a push before the work, which joins behind or is counted at a full FIFO (R96). -/
theorem Worked.plays_pushFirst {port : DeskIn} {arrived : List Sample} {slot : Nat}
    (w : Worked st (arriveAll src (deskPushed port arrived slot)) src') (ht : TakesHead src) (hf : src.fifo = .sample x :: rest) :
    src'.state = .running ∧ readRing src'.ring 0 = x ∧
      if 15 ≤ rest.length ∧ port.shift ≠ .nothing then src'.fifo = rest ∧ src'.overrun = min (src.overrun + 1) 65535
      else src'.fifo = rest ++ deskPushed port arrived slot ∧ src'.overrun = src.overrun := by
  have hi : src.state ≠ .idle := by rcases ht with h | ⟨h | h | h, -⟩ <;> simp [h]
  have hlen : src.fifo.length = rest.length + 1 := by rw [hf, List.length_cons]
  rcases deskPushed_cases port arrived slot with ⟨hs, hp⟩ | ⟨hs, y, hp⟩
  · rw [hp] at w ⊢
    obtain ⟨hring, hsrc⟩ := w.plays x rest ht hf
    rw [if_neg fun h => h.2 hs, hsrc, List.append_nil]
    exact ⟨rfl, hring, rfl, rfl⟩
  · rw [hp] at w ⊢
    have hjoin : arriveAll src [.sample y] = _ := arrive_notIdle hi (.sample y)
    by_cases hfull : 15 ≤ rest.length
    · rw [hjoin, if_neg (by omega)] at w
      obtain ⟨hring, hsrc⟩ := w.plays x rest ht hf
      rw [if_pos ⟨hfull, hs⟩, hsrc]
      exact ⟨rfl, hring, rfl, rfl⟩
    · rw [hjoin, if_pos (by omega)] at w
      have ht' : TakesHead { src with fifo := src.fifo ++ [.sample y] } :=
        ht.imp id fun ⟨hw, h⟩ => ⟨hw, by rw [List.length_append]; omega⟩
      obtain ⟨hring, hsrc⟩ := w.plays x (rest ++ [.sample y]) ht' (by rw [hf]; rfl)
      rw [if_neg fun h => hfull h.1, hsrc]
      exact ⟨rfl, hring, rfl, rfl⟩

/-- With a push after the work there is room for it: the work has taken an entry (R96, R104). -/
theorem Worked.plays_workFirst (w : Worked st src src') (ht : TakesHead src) (hf : src.fifo = .sample x :: rest)
    (hok : src.fifo.length ≤ 16) (port : DeskIn) (arrived : List Sample) (slot : Nat) :
    (arriveAll src' (deskPushed port arrived slot)).state = .running ∧
      readRing (arriveAll src' (deskPushed port arrived slot)).ring 0 = x ∧
      (arriveAll src' (deskPushed port arrived slot)).fifo = rest ++ deskPushed port arrived slot ∧
      (arriveAll src' (deskPushed port arrived slot)).overrun = src.overrun := by
  obtain ⟨hring, hsrc⟩ := w.plays x rest ht hf
  rcases deskPushed_cases port arrived slot with ⟨-, hp⟩ | ⟨-, y, hp⟩
  · rw [hp, List.append_nil, hsrc]
    exact ⟨rfl, hring, rfl, rfl⟩
  · have hrun : src'.state = .running := by rw [hsrc]
    have hfifo : src'.fifo = rest := by rw [hsrc]
    have hroom : src'.fifo.length < 16 := by
      rw [hf, List.length_cons] at hok
      rw [hfifo]
      omega
    have hjoin : arriveAll src' [.sample y] = { src' with fifo := src'.fifo ++ [.sample y] } :=
      (arrive_notIdle (by simp [hrun]) (.sample y)).trans (if_pos hroom)
    rw [hp, hjoin, hfifo]
    exact ⟨hrun, hring, rfl, by rw [hsrc]⟩

end

/-! ## The sources after a tick -/

theorem deskPortOf_eq_none {n : Fin 192} : deskPortOf n = none ↔ n.val < 128 := by
  unfold deskPortOf
  split <;> simp <;> omega

theorem pushDesk_deskSource (d : Desk) (desk : List DeskArrival) (first : Bool) (sources : Vector Source 192) {n : Fin 192}
    {p : Fin 4} {a : DeskArrival} (hp : deskPortOf n = some p) (ha : desk[p.val]? = some a) :
    (pushDesk d desk first sources)[n] =
      if a.pushFirst = first then arriveAll sources[n] (deskPushed d.ins[p] a.frame ((n.val - 128) % 16)) else sources[n] := by
  unfold pushDesk
  simp only [Fin.getElem_fin, bankMapIdx_get, Fin.eta, hp, ha, deskPushed_eq]
  cases pushedFrame d.ins[p.val] a.frame <;> rfl

section
variable {desk : List DeskArrival} {s : State} {n : Fin 192}

theorem workedSources_get (desk : List DeskArrival) (s : State) (n : Fin 192) :
    (bankMap (·.source) (worksAtTick desk s))[n] = ((worksAtTick desk s)[n]).source := bankMap_get _ _ _ _

theorem tick_laneSource (h : n.val < 128) :
    (tick desk s).monitor.sources[n] = (sourceWork s.monitor.settings s.monitor.sources[n]).source := by
  rw [tick_monitor, pushDesk_laneSource _ _ _ _ h, workedSources_get, worksAtTick_laneSource desk s h]

section
variable {p : Fin 4} {a : DeskArrival} (hp : deskPortOf n = some p) (ha : desk[p.val]? = some a)
include hp ha

/-- A desk source whose push comes first: the work finds the entry pushed (R104). -/
theorem tick_deskSource_pushFirst (h : a.pushFirst = true) :
    (worksAtTick desk s)[n] = sourceWork s.monitor.settings
        (arriveAll s.monitor.sources[n] (deskPushed s.desk.ins[p] a.frame ((n.val - 128) % 16))) ∧
      (tick desk s).monitor.sources[n] = ((worksAtTick desk s)[n]).source := by
  constructor
  · have hfound := pushDesk_deskSource s.desk desk true s.monitor.sources hp ha
    rw [if_pos h] at hfound
    rw [← hfound]
    exact bankMap_get _ _ _ _
  · rw [tick_monitor, pushDesk_deskSource _ _ _ _ hp ha, if_neg (by simp [h]), workedSources_get]

/-- A desk source whose push comes last: the entry arrives at what the work leaves (R104). -/
theorem tick_deskSource_workFirst (h : a.pushFirst = false) :
    (worksAtTick desk s)[n] = sourceWork s.monitor.settings s.monitor.sources[n] ∧
      (tick desk s).monitor.sources[n] =
        arriveAll ((worksAtTick desk s)[n]).source (deskPushed s.desk.ins[p] a.frame ((n.val - 128) % 16)) := by
  constructor
  · have hfound := pushDesk_deskSource s.desk desk true s.monitor.sources hp ha
    rw [if_neg (by simp [h])] at hfound
    rw [← hfound]
    exact bankMap_get _ _ _ _
  · rw [tick_monitor, pushDesk_deskSource _ _ _ _ hp ha, if_pos h, workedSources_get]

/-- A desk source that plays a sample, with its push before the work or after it (R96, R100, R104). -/
theorem tick_deskSource_plays {x : Sample} {rest : List Arrival} (ht : TakesHead s.monitor.sources[n])
    (hf : s.monitor.sources[n].fifo = .sample x :: rest) (hok : s.monitor.sources[n].fifo.length ≤ 16) :
    (tick desk s).monitor.sources[n].state = .running ∧ readRing (tick desk s).monitor.sources[n].ring 0 = x ∧
      if a.pushFirst = true ∧ 15 ≤ rest.length ∧ s.desk.ins[p].shift ≠ .nothing then
        (tick desk s).monitor.sources[n].fifo = rest ∧
          (tick desk s).monitor.sources[n].overrun = min (s.monitor.sources[n].overrun + 1) 65535
      else (tick desk s).monitor.sources[n].fifo = rest ++ deskPushed s.desk.ins[p] a.frame ((n.val - 128) % 16) ∧
        (tick desk s).monitor.sources[n].overrun = s.monitor.sources[n].overrun := by
  cases hfirst : a.pushFirst with
  | true =>
    obtain ⟨hwork, hsrc⟩ := tick_deskSource_pushFirst (s := s) hp ha hfirst
    rw [hsrc, hwork]
    simpa only [true_and] using (sourceWork_worked _ _).plays_pushFirst ht hf
  | false =>
    obtain ⟨hwork, hsrc⟩ := tick_deskSource_workFirst (s := s) hp ha hfirst
    rw [hsrc, hwork, if_neg fun h => Bool.false_ne_true h.1]
    exact (sourceWork_worked _ _).plays_workFirst ht hf hok _ _ _

end

/-- The operand of a tick tells of every desk port (R104). -/
theorem wellFormedDesk_tells (hwf : wellFormedDesk desk = true) (p : Fin 4) : ∃ a, desk[p.val]? = some a := by
  have hlen : desk.length = 4 := beq_iff_eq.1 (Bool.and_eq_true_iff.1 hwf).1
  exact ⟨_, List.getElem?_eq_getElem (by omega)⟩

/-- A source is of a lane, or of a desk port that the operand of the tick tells of (R1, R104). -/
theorem source_of_lane_or_desk (hwf : wellFormedDesk desk = true) (n : Fin 192) :
    n.val < 128 ∨ ∃ p a, deskPortOf n = some p ∧ desk[p.val]? = some a := by
  cases hp : deskPortOf n with
  | none => exact .inl (deskPortOf_eq_none.1 hp)
  | some p =>
    obtain ⟨a, ha⟩ := wellFormedDesk_tells hwf p
    exact .inr ⟨p, a, rfl, ha⟩

/-- Every source does its work once in a tick, with arrivals before it or after it. -/
theorem tick_source (s : State) (hwf : wellFormedDesk desk = true) (n : Fin 192) :
    ∃ first last, (worksAtTick desk s)[n] = sourceWork s.monitor.settings (arriveAll s.monitor.sources[n] first) ∧
      (tick desk s).monitor.sources[n] = arriveAll ((worksAtTick desk s)[n]).source last := by
  rcases source_of_lane_or_desk hwf n with hn | ⟨p, a, hp, ha⟩
  · have hwork := worksAtTick_laneSource desk s hn
    refine ⟨[], [], hwork, ?_⟩
    rw [hwork]
    exact tick_laneSource hn
  · cases hfirst : a.pushFirst with
    | true =>
      obtain ⟨hwork, hsrc⟩ := tick_deskSource_pushFirst (s := s) hp ha hfirst
      exact ⟨_, [], hwork, hsrc⟩
    | false =>
      obtain ⟨hwork, hsrc⟩ := tick_deskSource_workFirst (s := s) hp ha hfirst
      exact ⟨[], _, hwork, hsrc⟩

/-- Every ring and every meter takes one sample in a tick (R83, R98). -/
theorem tick_rings (s : State) (hwf : wellFormedDesk desk = true) (n : Fin 192) :
    (∀ d, d < 4095 → readRing (tick desk s).monitor.sources[n].ring (d + 1) = readRing s.monitor.sources[n].ring d) ∧
      ((tick desk s).monitor.sources[n].state ≠ .running → readRing (tick desk s).monitor.sources[n].ring 0 = 0#24) ∧
      (tick desk s).monitor.sources[n].meter = { s.monitor.sources[n].meter with
        running := max s.monitor.sources[n].meter.running
          (min (readRing (tick desk s).monitor.sources[n].ring 0).toInt.natAbs 8388607) } ∧
      (tick desk s).monitor.sources[n].changeEnable = s.monitor.sources[n].changeEnable := by
  obtain ⟨first, last, hwork, hsrc⟩ := tick_source s hwf n
  rw [hsrc, hwork]
  exact (sourceWork_worked _ _).with_arrivals last

theorem tick_tickedWith (desk : List DeskArrival) (s : State) (n : Fin 192) :
    TickedWith s.desk desk s.monitor.settings n s.monitor.sources[n] (tick desk s).monitor.sources[n] := by
  refine ⟨fun hp => ?_, fun p a hp ha => ?_⟩
  · rw [tick_laneSource (deskPortOf_eq_none.1 hp)]
    exact sourceWork_worked _ _
  · dsimp only
    split
    · next h =>
      obtain ⟨hwork, hsrc⟩ := tick_deskSource_pushFirst (s := s) hp ha h
      rw [hsrc, hwork]
      exact sourceWork_worked _ _
    · next h =>
      obtain ⟨hwork, hsrc⟩ := tick_deskSource_workFirst (s := s) hp ha (by simpa using h)
      rw [hsrc, hwork]
      exact ⟨_, sourceWork_worked _ _, rfl⟩

/-- After step 3 no entry of an earlier tick is left: the LOST entries are those the work adds (R70). -/
theorem tick_pendingLost (desk : List DeskArrival) (s : State) (n : Fin 192) :
    (tick desk s).route.pendingLost[n] = ((worksAtTick desk s)[n]).enteredLost := by
  rw [tick_route, addTriggers_pendingLost]
  simp [routeTick]

/-- The LOST entries after a tick are those of the sources that became LOST in it (R70). -/
theorem tick_pendingLost_iff (s : State) (hwf : wellFormedDesk desk = true) (n : Fin 192) :
    (tick desk s).route.pendingLost[n] = true ↔
      s.monitor.sources[n].state ≠ .lost ∧ (tick desk s).monitor.sources[n].state = .lost := by
  obtain ⟨first, last, hwork, hsrc⟩ := tick_source s hwf n
  obtain ⟨-, -, -, hstate⟩ := arriveAll_keeps s.monitor.sources[n] first
  obtain ⟨-, -, -, hstate'⟩ := arriveAll_keeps ((worksAtTick desk s)[n]).source last
  rw [tick_pendingLost, hsrc, hstate' .lost nofun nofun, hwork, enteredLost_iff_becomesLost, Ne, hstate .lost nofun nofun]

/-- Desk sources hold no close mark (R96). -/
theorem MonitorOk.no_mark {m : SourceMonitor} (hok : MonitorOk m) {p : Fin 4} (hp : deskPortOf n = some p) :
    .closeMark ∉ m.sources[n].fifo := by
  rw [← holdsClose_iff, hok.desk n (deskPortOf_eq_some.1 hp).1]
  exact Bool.false_ne_true

end

/-- Settles O38: the work of each source and the order of its push, read off `Worked`. -/
theorem tickFeedsEveryRing : Obligations.TickFeedsEveryRing := by
  intro desk s hwf hr hok
  refine ⟨tick desk s, doneWith_of_wellFormed (exec_sampleTick desk s) hwf hr, by rw [tick_monitor], fun n => ?_⟩
  have hwork : Worked s.monitor.settings s.monitor.sources[n] (sourceWork s.monitor.settings s.monitor.sources[n]).source :=
    sourceWork_worked _ _
  obtain ⟨holder, hsilent, hmeter, henable⟩ := tick_rings s hwf n
  refine ⟨holder, hsilent, hmeter, tick_pendingLost_iff s hwf n, tick_laneSource, henable, tick_tickedWith desk s n,
    fun p a x y rest hp ha hwaits hf hl hpush => ⟨fun hfirst => ?_, fun hfirst => ?_⟩, fun x rest ht hf => ?_,
    fun hn hs hf => ?_, fun before rest hn he hf hb => ?_, fun p a frame hp ha hframe hs hl => ?_⟩
  · obtain ⟨hfound, hafter⟩ := tick_deskSource_pushFirst (s := s) hp ha hfirst
    rw [hafter, hfound, hpush]
    exact (sourceWork_worked _ _).plays_eighth hwaits hf hl
  · obtain ⟨hfound, hafter⟩ := tick_deskSource_workFirst (s := s) hp ha hfirst
    rw [hafter, hfound, hpush]
    exact hwork.waits_for_eighth hwaits hf hl (hok.no_mark hp)
  · have hdesk (p : Fin 4) (a : DeskArrival) (hp : deskPortOf n = some p) (ha : desk[p.val]? = some a) :=
      tick_deskSource_plays hp ha ht hf (hok.sources n).fifo
    rcases source_of_lane_or_desk hwf n with hn | ⟨p, a, hp, ha⟩
    · obtain ⟨hring, hplayed⟩ := hwork.plays x rest ht hf
      rw [tick_laneSource hn]
      refine ⟨by rw [hplayed], hring, fun _ => by rw [hplayed]; exact ⟨rfl, rfl⟩, fun p a hp => ?_⟩
      rw [deskPortOf_eq_none.2 hn] at hp
      cases hp
    · obtain ⟨hrun, hring, -⟩ := hdesk p a hp ha
      refine ⟨hrun, hring, fun hn => ?_, fun p a hp ha => ?_⟩
      · rw [deskPortOf_eq_none.2 hn] at hp
        cases hp
      · obtain ⟨-, -, h⟩ := hdesk p a hp ha
        exact h
  · rw [tick_laneSource hn, hwork.starts hs hf]
    exact ⟨rfl, rfl⟩
  · rw [tick_laneSource hn, hwork.ends before rest he hf hb]
    exact ⟨rfl, rfl⟩
  · have hpush := deskPushed_frame s.desk.ins[p] a.frame ((n.val - 128) % 16) hframe
    cases hfirst : a.pushFirst with
    | true =>
      obtain ⟨hfound, hafter⟩ := tick_deskSource_pushFirst (s := s) hp ha hfirst
      rw [hafter, hfound, hpush]
      exact (sourceWork_worked _ _).primes_pushFirst hs hl (hok.no_mark hp)
    | false =>
      obtain ⟨hfound, hafter⟩ := tick_deskSource_workFirst (s := s) hp ha hfirst
      rw [hafter, hfound, hpush]
      exact hwork.primes_workFirst hs hl (hok.no_mark hp)

end Sys2Proof.Machine
end

section
/-!
Stage 1 of the Track Arithmetic Unit (R84): halves toward the larger number, and the exact product that is rounded.
-/
namespace Sys2Proof.Machine

/-! ## Rounding, halves toward the larger number (R84, R88) -/

/-- The rounded quotient is the largest whole number not greater than (q + 16384) / 32768. -/
theorem rounded_spec (q : Int) :
    (q + 16384) / 32768 * 32768 ≤ q + 16384 ∧ q + 16384 < ((q + 16384) / 32768 + 1) * 32768 := by omega

/-- Rounding keeps the bounds of the number that is rounded. -/
theorem le_rounded {lo q : Int} (h : lo * 32768 ≤ q) : lo ≤ (q + 16384) / 32768 := by omega

theorem rounded_le {hi q : Int} (h : q ≤ hi * 32768) : (q + 16384) / 32768 ≤ hi := by omega

/-! ## The leg product (R84) -/

/-- The exact product of a leg before it is rounded. -/
def legExact (sources : Vector Source 192) (leg : Leg) : Int :=
  (legInput sources leg).toInt * leg.mantissa.toInt * 2 ^ leg.boost.val

theorem legQuotient_eq (sources : Vector Source 192) (leg : Leg) :
    legQuotient sources leg = (legExact sources leg + 16384) / 32768 := rfl

theorem legInput_silence {leg : Leg} (sources : Vector Source 192) (h : leg.source = .silence) :
    legInput sources leg = 0#24 := by
  rw [legInput, h]

theorem legInput_track {leg : Leg} {n : Fin 192} (sources : Vector Source 192) (h : leg.source = .track n) :
    legInput sources leg = readRing sources[n].ring leg.delay.val := by
  rw [legInput, h]

theorem natAbs_toInt_le {w : Nat} (x : BitVec w) : x.toInt.natAbs ≤ 2 ^ (w - 1) := by
  have hlo : -2 ^ (w - 1) ≤ x.toInt := x.le_toInt
  have hhi : x.toInt < 2 ^ (w - 1) := x.toInt_lt
  zify
  exact abs_le.2 ⟨hlo, hhi.le⟩

/-- A 24-bit sample, a 16-bit mantissa and a boost of at most 2 bits: no product passes 2^40. -/
theorem natAbs_legExact_le (sources : Vector Source 192) (leg : Leg) : (legExact sources leg).natAbs ≤ 2 ^ 40 := by
  have hboost : ((2 : Int) ^ leg.boost.val).natAbs ≤ 2 ^ 2 := by
    rw [Int.natAbs_pow]
    exact Nat.pow_le_pow_right (by decide) (by omega)
  rw [legExact, Int.natAbs_mul, Int.natAbs_mul]
  calc _ ≤ 2 ^ 23 * 2 ^ 15 * 2 ^ 2 :=
        Nat.mul_le_mul (Nat.mul_le_mul (natAbs_toInt_le _) (natAbs_toInt_le _)) hboost
    _ = 2 ^ 40 := by norm_num

theorem legQuotient_of_exact_zero {sources : Vector Source 192} {leg : Leg} (h : legExact sources leg = 0) :
    legQuotient sources leg = 0 := by
  rw [legQuotient_eq, h]
  rfl

theorem legQuotient_silence {leg : Leg} (sources : Vector Source 192) (h : leg.source = .silence) :
    legQuotient sources leg = 0 :=
  legQuotient_of_exact_zero (by simp [legExact, legInput_silence sources h])

/-- Settles O39: the rounding of the exact product. -/
theorem legProductIsRoundedExactly : Obligations.LegProductIsRoundedExactly := by
  intro sources leg x hx q y
  have hinput : (legInput sources leg).toInt = x := by
    obtain ⟨hs, rfl⟩ | ⟨n, hn, rfl⟩ := hx
    · rw [legInput_silence sources hs]
      rfl
    · rw [legInput_track sources hn]
  have hq : legExact sources leg = q := by rw [legExact, hinput]
  have hy : y = (q + 16384) / 32768 := by rw [← hq, ← legQuotient_eq]
  obtain ⟨hle, hlt⟩ := rounded_spec q
  rw [← hy] at hle hlt
  refine ⟨hle, hlt, hq ▸ natAbs_legExact_le sources leg, fun hm => ?_, fun h0 => ?_, fun k hk => by omega⟩
  · exact legQuotient_of_exact_zero (by simp [legExact, hm])
  · exact legQuotient_of_exact_zero (by simp [legExact, hinput, h0])

end Sys2Proof.Machine
end

section
/-!
Saturation (R85) and stage 2 of the Track Arithmetic Unit (R86 to R88): the weight of a ramp is exact, and the blend lies between the two
products, so that the destination sample needs no limit of its own.
-/
namespace Sys2Proof.Machine

/-! ## Saturation (R85) -/

theorem saturate_above {y : Int} (h : 8388607 < y) : saturate y = 8388607 ∧ saturates y = true := by
  refine ⟨by unfold saturate; omega, ?_⟩
  simp [saturates, h]

theorem saturate_below {y : Int} (h : y < -8388608) : saturate y = -8388608 ∧ saturates y = true := by
  refine ⟨by unfold saturate; omega, ?_⟩
  simp [saturates, h]

theorem saturate_within {y : Int} (hlo : -8388608 ≤ y) (hhi : y ≤ 8388607) : saturate y = y ∧ saturates y = false := by
  refine ⟨by unfold saturate; omega, ?_⟩
  simp [saturates, hlo, hhi]

/-- A number in the range of a sample (R5). -/
abbrev SampleRange (z : Int) : Prop := -8388608 ≤ z ∧ z ≤ 8388607

theorem saturate_range (y : Int) : SampleRange (saturate y) := by
  unfold saturate
  constructor <;> omega

/-- A number in the range of a sample is the value of its sample. -/
theorem toInt_ofInt_of_range {z : Int} (h : SampleRange z) : (BitVec.ofInt 24 z).toInt = z :=
  BitVec.toInt_ofInt_eq_self (by decide) h.1 (Int.lt_add_one_of_le h.2)

/-! ## The blend of two products (R88) -/

section
variable {cur fade w lo hi : Int} (hw : 0 ≤ w) (hw' : w ≤ 32768)
include hw hw'

theorem le_blend (hc : lo ≤ cur) (hf : lo ≤ fade) : lo ≤ blend cur fade w := by
  refine le_rounded ?_
  calc lo * 32768 = lo * w + lo * (32768 - w) := by ring
    _ ≤ cur * w + fade * (32768 - w) :=
      add_le_add (mul_le_mul_of_nonneg_right hc hw) (mul_le_mul_of_nonneg_right hf (sub_nonneg.2 hw'))

theorem blend_le (hc : cur ≤ hi) (hf : fade ≤ hi) : blend cur fade w ≤ hi := by
  refine rounded_le ?_
  calc cur * w + fade * (32768 - w) ≤ hi * w + hi * (32768 - w) :=
      add_le_add (mul_le_mul_of_nonneg_right hc hw) (mul_le_mul_of_nonneg_right hf (sub_nonneg.2 hw'))
    _ = hi * 32768 := by ring

theorem blend_self : blend cur cur w = cur :=
  le_antisymm (blend_le hw hw' le_rfl le_rfl) (le_blend hw hw' le_rfl le_rfl)

/-- The blend of two products in range is in range: no limit is applied after it (R88). -/
theorem blend_range (hc : SampleRange cur) (hf : SampleRange fade) : SampleRange (blend cur fade w) :=
  ⟨le_blend hw hw' hc.1 hf.1, blend_le hw hw' hc.2 hf.2⟩

end

theorem blend_zero (cur fade : Int) : blend cur fade 0 = fade := by
  unfold blend
  omega

/-! ## The weight of a ramp (R87) -/

/-- Every ramp length divides 32768, the full weight (R64, R87). -/
theorem rampLength_dvd {c : Fin 8} (h : c.val ≠ 0) : rampLength c ∣ 32768 := by
  revert c; decide

theorem rampWeight_mul_length {ramp : Ramp} (h : RampOk ramp) : rampWeight ramp * ramp.length = ramp.position * 32768 := by
  obtain ⟨⟨c, hc, hlen⟩, -, -⟩ := h
  exact Nat.div_mul_cancel (Dvd.dvd.mul_left (hlen ▸ rampLength_dvd hc) _)

/-- A ramp has not reached its end, so its weight is below the full weight (R67, R87). -/
theorem rampWeight_lt {ramp : Ramp} (h : RampOk ramp) : rampWeight ramp < 32768 := by
  obtain ⟨-, hpos, -⟩ := h
  exact Nat.div_lt_of_lt_mul (Nat.mul_lt_mul_of_pos_right hpos (by decide))

/-! ## The destination sample of a record (R86, R88) -/

theorem blend_products_range (sources : Vector Source 192) (cur fade : Leg) {ramp : Ramp} (h : RampOk ramp) :
    SampleRange (blend (legProduct sources cur) (legProduct sources fade) (rampWeight ramp)) :=
  blend_range (Int.natCast_nonneg _) (by exact_mod_cast (rampWeight_lt h).le) (saturate_range _) (saturate_range _)

section
variable {r : Record} (sources : Vector Source 192) {ramp : Ramp}

theorem recordSample_live (h : r.phase = .live) : (recordSample sources r).toInt = legProduct sources r.current := by
  rw [recordSample, recordValue, rampOf, h]
  exact toInt_ofInt_of_range (saturate_range _)

theorem recordSample_fading (hr : rampOf r = some ramp) (hok : RampOk ramp) :
    (recordSample sources r).toInt =
      blend (legProduct sources r.current) (legProduct sources ramp.fading) (rampWeight ramp) := by
  rw [recordSample, recordValue, hr]
  exact toInt_ofInt_of_range (blend_products_range sources _ _ hok)

end

theorem PhaseOk.ramping {cur : Leg} {ramp : Ramp} {next : Option Leg} (h : PhaseOk cur (.ramping ramp next)) : RampOk ramp := by
  cases next with
  | none => exact h.2
  | some leg => exact h.2.1

/-- Settles O40: saturation, the blend and its bounds, the exact weight, and the sample of a record by its state. -/
theorem blendStaysBetweenTheProducts : Obligations.BlendStaysBetweenTheProducts := by
  refine ⟨fun y => ⟨saturate_above, saturate_below, saturate_within⟩, fun cur fade w hw hw' => ?_,
    fun ramp h => ⟨rampWeight_mul_length h, rampWeight_lt h⟩, fun sources r hok => ?_⟩
  · obtain ⟨hle, hlt⟩ := rounded_spec (cur * w + fade * (32768 - w))
    exact ⟨hle, hlt, le_blend hw hw' (min_le_left _ _) (min_le_right _ _), blend_le hw hw' (le_max_left _ _) (le_max_right _ _),
      blend_zero cur fade, blend_self hw hw'⟩
  · obtain ⟨hphase, -⟩ := hok
    rw [recordSaturates]
    cases hp : r.phase with
    | live => exact ⟨recordSample_live sources hp, by rw [rampOf, hp]⟩
    | ramping ramp next =>
      rw [hp] at hphase
      have hr : rampOf r = some ramp := by rw [rampOf, hp]
      exact ⟨recordSample_fading sources hr hphase.ramping, by rw [hr]⟩
    | retiring ramp =>
      rw [hp] at hphase
      obtain ⟨-, hsilent, hramp⟩ := hphase
      have hr : rampOf r = some ramp := by rw [rampOf, hp]
      have hzero : legProduct sources r.current = 0 := by rw [legProduct, legQuotient_silence sources hsilent]; rfl
      have hsample := recordSample_fading sources hr hramp
      rw [hzero] at hsample
      exact ⟨hsample, by rw [hr]⟩

end Sys2Proof.Machine
end

section
/-!
READ_METERS (R92): the run of pairs of one side, and the numbers it refuses.
-/
namespace Sys2Proof.Machine

/-! ## A run of pairs (R183) -/

@[simp] theorem meterPair_length (m : Meter) : (meterPair m).length = 4 := rfl

theorem meterPair_eq_meterCoded (m : Meter) : meterPair m = meterCoded m := rfl

section
variable {meters : List Meter} {first count : Nat}

theorem meterRun_length (h : first + count ≤ meters.length) : (meterRun meters first count).length = 4 * count := by
  have hcount : min count (meters.length - first) = count := by omega
  simp [meterRun, List.length_flatMap, hcount, Nat.mul_comm]

/-- Pair k of a run is that of meter `first + k`. -/
theorem meterRun_pair {k : Nat} {m : Meter} (hk : k < count) (hm : meters[first + k]? = some m) :
    ((meterRun meters first count).drop (4 * k)).take 4 = meterCoded m := by
  rw [← meterPair_eq_meterCoded]
  exact take_drop_flatMap meterPair_length (by rw [List.getElem?_take_of_lt hk, List.getElem?_drop, hm])

end

/-! ## READ_METERS (R92) -/

/-- The meters of a side: those of the sources for side 0, those of the destinations for side 1 (R90, R180). -/
def metersOf (s : State) (side : Byte) : List Meter :=
  if side = 0#8 then s.monitor.sources.toList.map (·.meter) else s.route.destMeters.toList

theorem metersOf_length (s : State) (side : Byte) : (metersOf s side).length = 192 := by
  unfold metersOf
  split <;> simp

theorem metersOf_source (s : State) (n : Fin 192) : (metersOf s 0#8)[n.val]? = some s.monitor.sources[n].meter := by
  simp [metersOf]

theorem metersOf_dest (s : State) (d : Fin 192) : (metersOf s 1#8)[d.val]? = some s.route.destMeters[d] := by
  simp [metersOf]

section
variable {side first count : Byte}

/-- A side that is neither SOURCE nor DEST, a count of 0 or over 48, or a run past track 191 (R92). -/
theorem readMeters_range (s : State) (h : 2 ≤ side.toNat ∨ 192 ≤ first.toNat ∨ count.toNat = 0 ∨ 48 < count.toNat ∨
    192 < first.toNat + count.toNat) : readMeters s side first count = ⟨.range, []⟩ := by
  unfold readMeters
  split
  · rfl
  · next hrun =>
    have hside : 2 ≤ side.toNat := h.resolve_right hrun
    have h0 : side ≠ 0#8 := by rintro rfl; simp at hside
    have h1 : side ≠ 1#8 := by rintro rfl; simp at hside
    rw [if_neg h0, if_neg h1]
    rfl

theorem readMeters_run (s : State) (hc : 1 ≤ count.toNat) (hc' : count.toNat ≤ 48) (hrun : first.toNat + count.toNat ≤ 192)
    (hside : side = 0#8 ∨ side = 1#8) :
    readMeters s side first count = ⟨.ok, meterRun (metersOf s side) first.toNat count.toNat⟩ := by
  rw [readMeters, if_neg (by omega)]
  obtain rfl | rfl := hside <;> rfl

end

/-- Settles O20: the numbers refused, and the run of each side pair by pair. -/
theorem readMetersReadsARun : Obligations.ReadMetersReadsARun := by
  intro side first count s h
  have hread := answeredWith_of_read (exec_readMeters side first count s) h
  refine ⟨fun hr => readMeters_range s hr ▸ hread, fun hc hc' hrun =>
    ⟨meterRun (metersOf s side) first.toNat count.toNat, meterRun_length (by rw [metersOf_length]; exact hrun),
      fun hside => ⟨readMeters_run s hc hc' hrun (.inl hside) ▸ hread, fun k n hk hn => meterRun_pair hk ?_⟩,
      fun hside => ⟨readMeters_run s hc hc' hrun (.inr hside) ▸ hread, fun k d hk hd => meterRun_pair hk ?_⟩⟩⟩
  · rw [← hn, hside, metersOf_source]
  · rw [← hd, hside, metersOf_dest]

end Sys2Proof.Machine
end

section
/-!
SET_MONITOR (R109) and SET_CHANGE_ENABLES (R111).
-/
namespace Sys2Proof.Machine

/-! ## The five settings (R109, R180) -/

/-- An edge selection is answered exactly for the code of one (R180). -/
theorem decodeEdge_eq_some {b : Byte} {e : EdgeSelect} : decodeEdge b = some e ↔
    b.toNat = 0 ∧ e = .enter ∨ b.toNat = 1 ∧ e = .leave ∨ b.toNat = 2 ∧ e = .both := by
  unfold decodeEdge
  split
  · next h => simp [h, eq_comm]
  · next h => simp [h, eq_comm]
  · next h => simp [h, eq_comm]
  · next h0 h1 h2 => exact iff_of_false nofun fun h => h.elim (h0 ·.1) (·.elim (h1 ·.1) (h2 ·.1))

/-- A code above 2 names no edge selection (R180). -/
theorem decodeEdge_none {b : Byte} (h : 2 < b.toNat) : decodeEdge b = none := by
  unfold decodeEdge
  split
  · omega
  · omega
  · omega
  · rfl

theorem edgeCode_of_decodeEdge {b : Byte} {e : EdgeSelect} (h : decodeEdge b = some e) : edgeCode e = b := by
  refine BitVec.eq_of_toNat_eq ?_
  obtain ⟨hb, rfl⟩ | ⟨hb, rfl⟩ | ⟨hb, rfl⟩ := decodeEdge_eq_some.1 h <;> rw [hb] <;> rfl

theorem oneByte_toNat (b : Byte) : oneByte b.toNat = b := by
  rw [oneByte, BitVec.ofNat_toNat, BitVec.setWidth_eq]

section
variable {l q f le qe : Byte}

theorem decodeSettings_eq_none
    (h : q.toNat < 8 ∨ 23 < q.toNat ∨ f.toNat = 0 ∨ 2 < le.toNat ∨ 2 < qe.toNat) : decodeSettings l q f le qe = none := by
  unfold decodeSettings
  split
  · next a b ha hb =>
    have hle : ¬ 2 < le.toNat := fun hn => by simp [decodeEdge_none hn] at ha
    have hqe : ¬ 2 < qe.toNat := fun hn => by simp [decodeEdge_none hn] at hb
    exact if_neg (by omega)
  · rfl

variable {a b : EdgeSelect} (hq : 8 ≤ q.toNat) (hq' : q.toNat ≤ 23) (hf : 1 ≤ f.toNat) (ha : decodeEdge le = some a)
  (hb : decodeEdge qe = some b)
include ha hb

theorem settingsBytes_decoded : settingsBytes ⟨l.toNat, q.toNat, f.toNat, a, b⟩ = [l, q, f, le, qe] := by
  simp only [settingsBytes, oneByte_toNat, edgeCode_of_decodeEdge ha, edgeCode_of_decodeEdge hb]

include hq hq' hf

/-- Settings in range are put in force together and answered as they were sent (R109). -/
theorem setMonitor_ok (m : SourceMonitor) :
    setMonitor m l q f le qe = ({ m with settings := ⟨l.toNat, q.toNat, f.toNat, a, b⟩ }, ⟨.ok, [l, q, f, le, qe]⟩) := by
  have hd : decodeSettings l q f le qe = some ⟨l.toNat, q.toNat, f.toNat, a, b⟩ := by
    unfold decodeSettings
    rw [ha, hb]
    exact if_pos ⟨hq, hq', hf⟩
  rw [setMonitor, hd, ← settingsBytes_decoded ha hb]
  rfl

end

theorem setMonitor_range {l q f le qe : Byte} (m : SourceMonitor)
    (h : q.toNat < 8 ∨ 23 < q.toNat ∨ f.toNat = 0 ∨ 2 < le.toNat ∨ 2 < qe.toNat) :
    setMonitor m l q f le qe = (m, ⟨.range, []⟩) := by
  rw [setMonitor, decodeSettings_eq_none h]
  rfl

/-- The settings are no part of what the alert indication depends on (R154, R157). -/
theorem settle_respond_settings (s : State) (st : MonitorSettings) (r : Response) :
    settle s (respond { s with monitor := { s.monitor with settings := st } } r) =
      respond { s with monitor := { s.monitor with settings := st } } r :=
  settle_of_same ((alertWaiting_respond _ r).trans (alertWaiting_congr rfl rfl))

/-! ## The 192 change enables (R111, R179) -/

theorem setEnables_source (m : SourceMonitor) (e : BitVec 192) (n : Fin 192) :
    (setEnables m e).sources[n] = { m.sources[n] with changeEnable := e.getLsbD n.val } := by
  simp [setEnables]

theorem getLsbD_enablesInForce (sources : Vector Source 192) (n : Fin 192) :
    (enablesInForce sources).getLsbD n.val = sources[n].changeEnable := by
  rw [enablesInForce, BitVec.getLsbD_ofNat, testBit_maskOf, decide_eq_true n.isLt, Bool.true_and]
  simp

/-- The enables answered are those just set. -/
theorem enablesInForce_setEnables (m : SourceMonitor) (e : BitVec 192) : enablesInForce (setEnables m e).sources = e := by
  refine BitVec.eq_of_getLsbD_eq fun k hk => ?_
  rw [getLsbD_enablesInForce _ ⟨k, hk⟩, setEnables_source]

/-- Source n is bit n mod 8 of byte n ÷ 8 (R179). -/
theorem enableBytes_bit (e : BitVec 192) (n : Fin 192) :
    ∃ b, (enableBytes e)[n.val / 8]? = some b ∧ b.getLsbD (n.val % 8) = e.getLsbD n.val := by
  have hbyte : n.val / 8 < 24 := by omega
  refine ⟨e.extractLsb' (8 * (n.val / 8)) 8, by simp [enableBytes, hbyte], ?_⟩
  rw [BitVec.getLsbD_extractLsb', decide_eq_true (Nat.mod_lt _ (by decide)), Bool.true_and, Nat.div_add_mod]

/-- Settles O45: the settings refused and put in force, and the enables source by source. -/
theorem monitorSettingsAreReplaced : Obligations.MonitorSettingsAreReplaced := by
  refine ⟨fun l q f le qe s h => ⟨fun hr => ?_, fun a b hq hq' hf ha hb => ?_⟩, fun e s h => ?_⟩
  · exact answeredWith_of_refused (exec_setMonitor l q f le qe s) h (by simp only [setMonitor_range s.monitor hr])
  · have ht := takenWith_of_request (exec_setMonitor l q f le qe s) h
    simp only [setMonitor_ok hq hq' hf (decodeEdge_eq_some.2 ha) (decodeEdge_eq_some.2 hb) s.monitor] at ht
    rwa [TakenWith, settle_respond_settings] at ht
  · exact ⟨_, _, takenWith_of_request (exec_setChangeEnables e s) h, setEnables_settings _ _, enableBytes_length _,
      fun n => ⟨setEnables_source s.monitor e n, by rw [enablesInForce_setEnables]; exact enableBytes_bit e n⟩⟩

end Sys2Proof.Machine
end

section
/-!
The loss time (R100 to R102, R107): a source that starves, tick by tick, until its timer ends.
-/
namespace Sys2Proof.Machine

section
variable {st : MonitorSettings} {src : Source}

/-- The source is STARVED with nothing in its FIFO, and its loss timer stands so. -/
abbrev StarvesAt (timer : Option Nat) (src : Source) : Prop := src.state = .starved ∧ src.fifo = [] ∧ src.timer = timer

theorem StarvesAt.rests {timer : Option Nat} (h : StarvesAt timer src) : ¬ TakesHead src ∧ ¬ FeedEnds src := by
  obtain ⟨hs, hf, -⟩ := h
  exact ⟨not_takesHead_of_few (by simp [hs]) (by simp [hf]), not_feedEnds_of_no_mark (by simp [hf])⟩

/-- A RUNNING source with an empty FIFO starves, its timer loaded with the loss time (R100, R102). -/
theorem sourceWork_starts (hr : src.state = .running) (hf : src.fifo = []) :
    StarvesAt (if st.lossTime = 0 then none else some (48 * st.lossTime)) (sourceWork st src).source ∧
      (sourceWork st src).source.underrun = min (src.underrun + 1) 65535 := by
  rw [(sourceWork_worked st src).starts hr hf, Nat.mul_comm]
  exact ⟨⟨rfl, hf, rfl⟩, rfl⟩

/-- A stopped timer leaves a starving source STARVED (R101, R102). -/
theorem StarvesAt.work_stopped (h : StarvesAt none src) : StarvesAt none (sourceWork st src).source := by
  obtain ⟨ht, he⟩ := h.rests
  obtain ⟨hs, hf, hn⟩ := h
  rw [((sourceWork_worked st src).starves ht he hs).1 hn]
  exact ⟨hs, hf, hn⟩

/-- A timer above 1 goes down by one, and the underrun is counted (R101, R107). -/
theorem StarvesAt.work_counts {c : Nat} (h : StarvesAt (some (c + 2)) src) :
    StarvesAt (some (c + 1)) (sourceWork st src).source ∧
      (sourceWork st src).source.underrun = min (src.underrun + 1) 65535 := by
  obtain ⟨ht, he⟩ := h.rests
  obtain ⟨hs, hf, hc⟩ := h
  rw [((sourceWork_worked st src).starves ht he hs).2.1 (c + 2) hc (by omega)]
  exact ⟨⟨hs, hf, rfl⟩, rfl⟩

/-- A timer of 1 ends, and the source is LOST (R101, R107). -/
theorem StarvesAt.work_ends (h : StarvesAt (some 1) src) :
    (sourceWork st src).source.state = .lost ∧ (sourceWork st src).source.underrun = min (src.underrun + 1) 65535 := by
  obtain ⟨ht, he⟩ := h.rests
  obtain ⟨hs, hf, hc⟩ := h
  rw [((sourceWork_worked st src).starves ht he hs).2.2 1 hc le_rfl]
  exact ⟨rfl, rfl⟩

theorem StarvesAt.workTimes_stopped (h : StarvesAt none src) (k : Nat) : (workTimes st k src).state = .starved := by
  induction k generalizing src with
  | zero => exact h.1
  | succ k ih => exact ih h.work_stopped

/-- Before its timer ends a starving source stays STARVED (R101). -/
theorem StarvesAt.workTimes_before {c k : Nat} (h : StarvesAt (some (c + 1)) src) (hk : k ≤ c) :
    (workTimes st k src).state = .starved := by
  induction k generalizing src c with
  | zero => exact h.1
  | succ k ih =>
    cases c with
    | zero => omega
    | succ c => exact ih h.work_counts.1 (by omega)

/-- A starving source is LOST when its timer has ended, with an underrun counted a tick (R101, R107). -/
theorem StarvesAt.workTimes_lost {c : Nat} (h : StarvesAt (some (c + 1)) src) :
    (workTimes st (c + 1) src).state = .lost ∧ (workTimes st (c + 1) src).underrun = min (src.underrun + (c + 1)) 65535 := by
  induction c generalizing src with
  | zero => exact h.work_ends
  | succ c ih =>
    obtain ⟨hnext, hunder⟩ := h.work_counts (st := st)
    obtain ⟨hlost, hcount⟩ := ih hnext
    refine ⟨hlost, hcount.trans ?_⟩
    rw [hunder]
    omega

end

/-- Settles O43: the first tick starves the source, and its timer counts from there. -/
theorem lossTimeIsExact : Obligations.LossTimeIsExact := by
  intro st src hr hf
  obtain ⟨hstart, hunder⟩ := sourceWork_starts (st := st) hr hf
  by_cases hl : st.lossTime = 0
  · rw [if_pos hl] at hstart
    exact ⟨fun k _ => hstart.workTimes_stopped k, fun h => by omega, fun _ k => hstart.workTimes_stopped k⟩
  · obtain ⟨c, hc⟩ : ∃ c, 48 * st.lossTime = c + 1 := ⟨48 * st.lossTime - 1, by omega⟩
    rw [if_neg hl, hc] at hstart
    refine ⟨fun k hk => hstart.workTimes_before (by omega), fun _ => ?_, fun h => absurd h hl⟩
    obtain ⟨hlost, hcount⟩ := hstart.workTimes_lost (st := st)
    rw [hc]
    refine ⟨hlost, hcount.trans ?_⟩
    rw [hunder]
    omega

end Sys2Proof.Machine
end

section
/-!
ACK_SOURCES (R110, R113) and ACK_LANES (R118): change flags cleared by list and by mask.
-/
namespace Sys2Proof.Machine

/-! ## ACK_SOURCES (R113) -/

section
variable {m : SourceMonitor} {count : Byte} {list : List Byte}

theorem ackSources_range (h : count.toNat = 0 ∨ 32 < count.toNat ∨ ∃ b ∈ list, 192 ≤ b.toNat) :
    ackSources m count list = (m, ⟨.range, []⟩) := by
  refine if_neg fun hok => ?_
  obtain ⟨hcount, hlist⟩ := Bool.and_eq_true_iff.1 hok
  obtain ⟨h1, h32⟩ := of_decide_eq_true hcount
  rw [List.all_eq_true] at hlist
  rcases h with h | h | ⟨b, hb, h⟩
  · omega
  · exact absurd h32 (not_le.2 h)
  · exact absurd (of_decide_eq_true (hlist b hb)) (not_lt.2 h)

theorem ackSources_ok (h1 : 1 ≤ count.toNat) (h32 : count.toNat ≤ 32) (hlist : ∀ b ∈ list, b.toNat < 192) :
    ackSources m count list = (clearChangeFlags m list, ⟨.ok, []⟩) := by
  refine if_pos (Bool.and_eq_true_iff.2 ⟨decide_eq_true ⟨h1, h32⟩, ?_⟩)
  rw [List.all_eq_true]
  exact fun b hb => decide_eq_true (hlist b hb)

end

/-- A source is listed by the byte of its number (R179). -/
theorem contains_oneByte (list : List Byte) (n : Fin 192) :
    list.contains (oneByte n.val) = list.any fun b => b.toNat == n.val := by
  have hn : n.val % 2 ^ 8 = n.val := Nat.mod_eq_of_lt (by omega)
  have hb : ∀ b : Byte, (oneByte n.val == b) = (b.toNat == n.val) := fun b => by
    rw [Bool.eq_iff_iff, beq_iff_eq, beq_iff_eq, ← BitVec.toNat_inj, oneByte, BitVec.toNat_ofNat, hn, eq_comm]
  simp only [List.contains_eq_any_beq, hb]

theorem clearChangeFlags_source (m : SourceMonitor) (list : List Byte) (n : Fin 192) :
    (clearChangeFlags m list).sources[n] = { m.sources[n] with
      changeFlag := m.sources[n].changeFlag && !list.any fun b => b.toNat == n.val } := by
  simp only [clearChangeFlags, Fin.getElem_fin, bankMapIdx_get, contains_oneByte]
  cases list.any fun b => b.toNat == n.val
  · simp
  · simp

/-- The SOURCE request goes with the last change flag (R110, R154). -/
theorem requests_source_clearChangeFlags {s : State} {list : List Byte}
    (h : ∀ n : Fin 192, s.monitor.sources[n].changeFlag = true → ∃ b ∈ list, b.toNat = n.val) :
    (requests { s with monitor := clearChangeFlags s.monitor list }).source = false := by
  unfold requests
  rw [bankAny_false_iff]
  intro n
  rw [clearChangeFlags_source, Bool.and_eq_false_imp]
  intro hn
  obtain ⟨b, hb, he⟩ := h n hn
  rw [Bool.not_eq_false', List.any_eq_true]
  exact ⟨b, hb, beq_iff_eq.2 he⟩

/-! ## ACK_LANES (R118) -/

theorem clearLaneFlags_lane (lanes : Vector Lane 8) (mask : Byte) (n : Fin 8) :
    (clearLaneFlags lanes mask)[n] = { lanes[n] with changeFlag := lanes[n].changeFlag && !mask.getLsbD n.val } := by
  simp only [clearLaneFlags, Fin.getElem_fin, bankMapIdx_get]
  cases mask.getLsbD n.val
  · simp
  · simp

theorem getLsbD_laneFlags (lanes : Vector Lane 8) (n : Fin 8) : (laneFlags lanes).getLsbD n.val = lanes[n].changeFlag := by
  rw [laneFlags, getLsbD_oneByte_maskOf _ n.isLt]
  simp

/-- Settles O46: the listed sources refused or cleared, and the lanes of the mask cleared. -/
theorem acknowledgedFlagsAreCleared : Obligations.AcknowledgedFlagsAreCleared := by
  refine ⟨fun count list s h => ⟨fun hbad => ?_, fun h1 h32 hlist => ?_⟩, fun mask s h => ?_⟩
  · exact answeredWith_of_refused (exec_ackSources count list s) h (by simp only [ackSources_range hbad])
  · have ht := takenWith_of_request (exec_ackSources count list s) h
    simp only [ackSources_ok h1 h32 hlist] at ht
    exact ⟨_, ht, clearChangeFlags_settings _ _, clearChangeFlags_source _ _, requests_source_clearChangeFlags⟩
  · exact ⟨_, _, takenWith_of_request (exec_ackLanes mask s) h,
      fun n => ⟨clearLaneFlags_lane s.lanes mask n, getLsbD_laneFlags _ n⟩⟩

end Sys2Proof.Machine
end

section
/-!
RESTART_LANE (R106, R127, R132, R149): the receive side, the sources and the transmit side of one lane.
-/
namespace Sys2Proof.Machine

section
variable {s : State} {n : Byte}

theorem restartLaneNumbered_range (h : 8 ≤ n.toNat) : restartLaneNumbered s n = (s, ⟨.range, []⟩) := by
  rw [restartLaneNumbered, toIndex_eq_none.2 h]
  rfl

theorem restartLaneNumbered_ok {k : Fin 8} (h : n.toNat = k.val) : restartLaneNumbered s n = (restartLane s k, ⟨.ok, []⟩) := by
  rw [restartLaneNumbered, h, toIndex_val]
  rfl

end

section
variable (s : State) (k : Fin 8)

theorem restartLane_source (i : Fin 192) :
    (restartLane s k).monitor.sources[i] =
      if i.val / 16 = k.val then makeIdle s.monitor.sources[i] else s.monitor.sources[i] := by
  simp [idleLaneSources, ofLane]

theorem restartLane_lane_self :
    (restartLane s k).lanes[k] = restartTransmit s.route k (restartReceive s.lanes[k]) := by
  rw [restartLane_lanes]
  exact bankModify_get_self _ _ _

theorem restartLane_lane_other {a : Fin 8} (h : a ≠ k) : (restartLane s k).lanes[a] = s.lanes[a] := by
  rw [restartLane_lanes]
  exact bankModify_other _ _ h

theorem restartLane_inBundle (j : Fin 8) : (restartLane s k).lanes[k].inBundles[j] = ⟨none, 0⟩ := by
  rw [restartLane_lane_self]
  simp

/-- A restarted bundle is ACTIVE exactly when the map names one of its two tracks (R135, R149). -/
theorem restartLane_outBundle (j : Fin 8) :
    (restartLane s k).lanes[k].outBundles[j] =
      ⟨if s.route.destMap[trackA k j] = none ∧ s.route.destMap[trackB k j] = none then .inactive else .active, [], 0#8, 0⟩ := by
  have hjudged : (restartLane s k).lanes[k].outBundles[j] = restartBundle (isRouted s.route.destMap k j) s.lanes[k].outBundles[j] := by
    rw [restartLane_lane_self, restartTransmit_outBundles]
    exact bankMapIdx_get _ _ _ _
  rw [hjudged, restartBundle]
  simp only [← isRouted_false]
  cases isRouted s.route.destMap k j <;> rfl

end

/-- Settles O52, part by part of the restarted lane. -/
theorem restartLaneRestartsBothSides : Obligations.RestartLaneRestartsBothSides := by
  intro n s h
  refine ⟨fun hbad => ?_, fun k hk => ?_⟩
  · exact answeredWith_of_refused (exec_restartLane n s) h (restartLaneNumbered_range hbad)
  · have ht := takenWith_of_request (exec_restartLane n s) h
    simp only [restartLaneNumbered_ok hk] at ht
    refine ⟨(restartLane s k).lanes, (restartLane s k).monitor, ht, idleLaneSources_settings _ _, restartLane_source s k,
      fun a ha => restartLane_lane_other s k ha, ?_, fun j a b ha hb => ⟨restartLane_inBundle s k j, ?_⟩⟩
    · rw [restartLane_lane_self]
      rfl
    · obtain rfl := trackA_eq ha
      obtain rfl := trackB_eq hb
      exact restartLane_outBundle s k j

end Sys2Proof.Machine
end

section
/-!
READ_SOURCE (R108) and READ_LANE (R130): the image as it stood, then the counters cleared on request.
-/
namespace Sys2Proof.Machine

/-- A number of two bytes is sent most significant byte first (R165, R179). -/
theorem twoBytes_eq_numberCoded (n : Nat) : twoBytes n = numberCoded n := by
  rw [twoBytes, wordBytes_eq_numberCoded, BitVec.toNat_ofNat, numberCoded, numberCoded]
  congr 1
  · apply BitVec.eq_of_toNat_eq
    simp only [BitVec.toNat_ofNat]
    omega
  · congr 1
    apply BitVec.eq_of_toNat_eq
    simp only [BitVec.toNat_ofNat]
    omega

/-! ## READ_SOURCE (R108) -/

section
variable {m : SourceMonitor} {n : Byte} {clear : Bool}

theorem readSource_range (h : 192 ≤ n.toNat) : readSource m n clear = (m, ⟨.range, []⟩) := by
  rw [readSource, toIndex_eq_none.2 h]
  rfl

variable {k : Fin 192} (h : n.toNat = k.val)
include h

theorem readSource_answer : (readSource m n clear).2 = ⟨.ok, sourceImage m.sources[k]⟩ := by
  rw [readSource, h, toIndex_val]
  rfl

theorem readSource_settings : (readSource m n clear).1.settings = m.settings := by
  rw [readSource, h, toIndex_val]
  cases clear <;> rfl

theorem readSource_self :
    (readSource m n clear).1.sources[k] = if clear then clearSourceCounters m.sources[k] else m.sources[k] := by
  rw [readSource, h, toIndex_val]
  cases clear
  · rfl
  · exact bankModify_get_self _ _ _

theorem readSource_other {j : Fin 192} (hj : j ≠ k) : (readSource m n clear).1.sources[j] = m.sources[j] := by
  rw [readSource, h, toIndex_val]
  cases clear
  · rfl
  · exact bankModify_other _ _ hj

end

/-! ## READ_LANE (R130) -/

section
variable {lanes : Vector Lane 8} {n : Byte} {clear : Bool}

theorem readLane_range (h : 8 ≤ n.toNat) : readLane lanes n clear = (lanes, ⟨.range, []⟩) := by
  rw [readLane, toIndex_eq_none.2 h]
  rfl

variable {k : Fin 8} (h : n.toNat = k.val)
include h

theorem readLane_answer : (readLane lanes n clear).2 = ⟨.ok, laneImage lanes[k]⟩ := by
  rw [readLane, h, toIndex_val]
  rfl

theorem readLane_self : (readLane lanes n clear).1[k] = if clear then clearLaneCounters lanes[k] else lanes[k] := by
  rw [readLane, h, toIndex_val]
  cases clear
  · rfl
  · exact bankModify_get_self _ _ _

theorem readLane_other {j : Fin 8} (hj : j ≠ k) : (readLane lanes n clear).1[j] = lanes[j] := by
  rw [readLane, h, toIndex_val]
  cases clear
  · rfl
  · exact bankModify_other _ _ hj

end

/-! ## The lane image, part by part (R183) -/

section
variable (l : Lane)

/-- Presence, change flag, settings and whether a SET_LANE is pending: bytes 0 to 8. -/
def laneHead : List Byte :=
  [flagByte (!isAbsent l), flagByte l.changeFlag] ++ laneSettingsBytes l.settings ++ [flagByte l.pendingSettings.isSome]

/-- The four receive counters: bytes 9 to 16. -/
def laneCounters : List Byte := twoBytes l.excess ++ twoBytes l.truncated ++ twoBytes l.checkError ++ twoBytes l.malformed

/-- The gap counters: bytes 17 to 32. -/
def laneGaps : List Byte := l.inBundles.toList.flatMap fun b => twoBytes b.gap

/-- The activities: bytes 33 to 40. -/
def laneActivities : List Byte := l.outBundles.toList.map fun b => activityCode b.activity

/-- The overflow counters: bytes 41 to 56. -/
def laneOverflows : List Byte := l.outBundles.toList.flatMap fun b => twoBytes b.overflow

theorem laneImage_parts :
    laneImage l = laneHead l ++ (laneCounters l ++ (laneGaps l ++ (laneActivities l ++ laneOverflows l))) := by
  simp only [laneImage, laneHead, laneCounters, laneGaps, laneActivities, laneOverflows, List.append_assoc]

theorem laneHead_length : (laneHead l).length = 9 := rfl

theorem laneCounters_length : (laneCounters l).length = 8 := rfl

theorem laneGaps_length : (laneGaps l).length = 16 := by
  simp [laneGaps, List.length_flatMap, twoBytes, wordBytes]

theorem laneActivities_length : (laneActivities l).length = 8 := by simp [laneActivities]

theorem laneOverflows_length : (laneOverflows l).length = 16 := by
  simp [laneOverflows, List.length_flatMap, twoBytes, wordBytes]

theorem laneImage_length : (laneImage l).length = 57 := by
  simp only [laneImage_parts, List.length_append, laneHead_length, laneCounters_length, laneGaps_length,
    laneActivities_length, laneOverflows_length]

theorem laneImage_head : (laneImage l).take 9 = laneHead l := by
  rw [laneImage_parts]
  exact List.take_left' (laneHead_length l)

theorem laneImage_drop_head :
    (laneImage l).drop 9 = laneCounters l ++ (laneGaps l ++ (laneActivities l ++ laneOverflows l)) := by
  rw [laneImage_parts]
  exact List.drop_left' (laneHead_length l)

theorem laneImage_counters : ((laneImage l).drop 9).take 8 = laneCounters l := by
  rw [laneImage_drop_head]
  exact List.take_left' (laneCounters_length l)

theorem laneImage_drop_counters : (laneImage l).drop 17 = laneGaps l ++ (laneActivities l ++ laneOverflows l) := by
  rw [show 17 = 9 + 8 from rfl, ← List.drop_drop, laneImage_drop_head]
  exact List.drop_left' (laneCounters_length l)

theorem laneImage_drop_gaps : (laneImage l).drop 33 = laneActivities l ++ laneOverflows l := by
  rw [show 33 = 17 + 16 from rfl, ← List.drop_drop, laneImage_drop_counters]
  exact List.drop_left' (laneGaps_length l)

theorem laneImage_drop_activities : (laneImage l).drop 41 = laneOverflows l := by
  rw [show 41 = 33 + 8 from rfl, ← List.drop_drop, laneImage_drop_gaps]
  exact List.drop_left' (laneActivities_length l)

variable (j : Fin 8)

theorem laneImage_gap : ((laneImage l).drop (17 + 2 * j.val)).take 2 = twoBytes l.inBundles[j].gap := by
  have hgap : ((laneGaps l).drop (2 * j.val)).take 2 = twoBytes l.inBundles[j].gap :=
    take_drop_flatMap (f := fun b : InBundle => twoBytes b.gap) (fun _ => rfl) (by simp)
  have hlen := laneGaps_length l
  rw [← List.drop_drop, laneImage_drop_counters, List.drop_append_of_le_length (by omega),
    List.take_append_of_le_length (by rw [List.length_drop]; omega), hgap]

theorem laneImage_activity : (laneImage l)[33 + j.val]? = some (activityCode l.outBundles[j].activity) := by
  have hlen := laneActivities_length l
  rw [← List.getElem?_drop, laneImage_drop_gaps, List.getElem?_append_left (by omega)]
  simp [laneActivities]

theorem laneImage_overflow : ((laneImage l).drop (41 + 2 * j.val)).take 2 = twoBytes l.outBundles[j].overflow := by
  rw [← List.drop_drop, laneImage_drop_activities]
  exact take_drop_flatMap (f := fun b : OutBundle => twoBytes b.overflow) (fun _ => rfl) (by simp)

end

theorem laneHead_eq (l : Lane) :
    laneHead l = [if l.presence = .absent then 0#8 else 1#8, if l.changeFlag then 1#8 else 0#8] ++
      numberCoded l.settings.switchLine ++ [l.settings.keepMask, BitVec.ofNat 8 l.settings.budget,
        if l.settings.mode = .fixed then 0#8 else 1#8, BitVec.ofNat 8 l.settings.lowest.val,
        if l.pendingSettings = none then 0#8 else 1#8] := by
  have hpresent : flagByte (!isAbsent l) = if l.presence = .absent then 0#8 else 1#8 := by
    unfold isAbsent
    cases l.presence <;> rfl
  have hmode : priorityModeCode l.settings.mode = if l.settings.mode = .fixed then 0#8 else 1#8 := by
    cases l.settings.mode <;> rfl
  have hpending : flagByte l.pendingSettings.isSome = if l.pendingSettings = none then 0#8 else 1#8 := by
    cases l.pendingSettings <;> rfl
  rw [laneHead, laneSettingsBytes, hpresent, hmode, hpending, twoBytes_eq_numberCoded]
  rfl

theorem laneCounters_eq (l : Lane) :
    laneCounters l =
      numberCoded l.excess ++ numberCoded l.truncated ++ numberCoded l.checkError ++ numberCoded l.malformed := by
  simp only [laneCounters, twoBytes_eq_numberCoded]

theorem sourceImage_eq (src : Source) :
    sourceImage src =
      [sourceStateCode src.state, if src.quiet then 1#8 else 0#8, BitVec.ofNat 8 src.quietCount,
        BitVec.ofNat 8 src.fifo.length] ++ numberCoded src.underrun ++ numberCoded src.overrun ++
        [BitVec.ofNat 8 src.meter.level, if src.changeFlag then 1#8 else 0#8, if src.changeEnable then 1#8 else 0#8] := by
  rw [sourceImage, twoBytes_eq_numberCoded, twoBytes_eq_numberCoded]
  rfl

theorem clearLaneCounters_inBundle (l : Lane) (j : Fin 8) :
    (clearLaneCounters l).inBundles[j] = { l.inBundles[j] with gap := 0 } := by simp

theorem clearLaneCounters_outBundle (l : Lane) (j : Fin 8) :
    (clearLaneCounters l).outBundles[j] = { l.outBundles[j] with overflow := 0 } := by simp

/-- Settles O44: the two images and the counters that their clear reaches. -/
theorem readsClearTheirCounters : Obligations.ReadsClearTheirCounters := by
  refine ⟨fun n clear s h => ⟨fun hbad => ?_, fun k hk => ?_⟩, fun n clear s h => ⟨fun hbad => ?_, fun k hk => ?_⟩⟩
  · exact answeredWith_of_refused (exec_readSource n clear s) h (by simp only [readSource_range hbad])
  · have ht := takenWith_of_request (exec_readSource n clear s) h
    rw [readSource_answer hk, sourceImage_eq] at ht
    exact ⟨_, ht, readSource_settings hk, fun j hj => readSource_other hk hj, readSource_self hk⟩
  · exact answeredWith_of_refused (exec_readLane n clear s) h (by simp only [readLane_range hbad])
  · have ht := takenWith_of_request (exec_readLane n clear s) h
    rw [readLane_answer hk] at ht
    refine ⟨(readLane s.lanes n clear).1, laneImage s.lanes[k], ht, laneImage_length _,
      (laneImage_head _).trans (laneHead_eq _), (laneImage_counters _).trans (laneCounters_eq _), fun j => ⟨?_, ?_, ?_⟩,
      fun m hm => readLane_other hk hm, ?_, ?_⟩
    · rw [laneImage_gap, twoBytes_eq_numberCoded]
    · exact laneImage_activity s.lanes[k] j
    · rw [laneImage_overflow, twoBytes_eq_numberCoded]
    · rintro rfl
      exact readLane_self hk
    · rintro rfl
      rw [readLane_self hk]
      exact ⟨rfl, fun j => ⟨clearLaneCounters_inBundle _ j, clearLaneCounters_outBundle _ j⟩⟩

end Sys2Proof.Machine
end

section
/-!
INPUT_LINE_EVENT at the receive side (R115 to R118, R123 to R131): the packets of a line taken one by one, with what each leaves of the
counters, the sequence references and the sources.
-/
namespace Sys2Proof.Machine

/-! ## The sequence check (R126) -/

/-- The count that follows a reference, 255 followed by 0. -/
theorem byte_eq_add_one_iff (c r : Byte) : c = r + 1#8 ↔ c.toNat = (r.toNat + 1) % 256 := by
  rw [← BitVec.toNat_inj, BitVec.toNat_add]
  rfl

theorem seqCheck_none {b : InBundle} (h : b.seqRef = none) (c : Byte) : (seqCheck b c).gap = b.gap := by
  simp only [seqCheck, h]

theorem seqCheck_some {b : InBundle} {r : Byte} (h : b.seqRef = some r) (c : Byte) :
    (seqCheck b c).gap = if c.toNat = (r.toNat + 1) % 256 then b.gap else min (b.gap + 1) 65535 := by
  simp only [seqCheck, h, byte_eq_add_one_iff]
  rfl

/-! ## Arrivals in order (R96, R97) -/

theorem arriveAll_append (src : Source) (es fs : List Arrival) :
    arriveAll src (es ++ fs) = arriveAll (arriveAll src es) fs := List.foldl_append

theorem arrive_idle_closeMark {src : Source} (h : src.state = .idle) : arrive src .closeMark = src := by
  simp only [arrive, h]

/-! ## The two sources of a bundle (R3, R128) -/

section
variable (n : Fin 8) {j k : Fin 8}

theorem trackA_inj : trackA n j = trackA n k ↔ j = k := by
  simp only [trackA, Fin.ext_iff]
  omega

theorem trackB_inj : trackB n j = trackB n k ↔ j = k := by
  simp only [trackB, Fin.ext_iff]
  omega

theorem trackA_ne_trackB (j k : Fin 8) : trackA n j ≠ trackB n k := by
  simp only [trackA, trackB, Ne, Fin.ext_iff]
  omega

theorem ne_trackA {i : Fin 192} (h : i.val / 16 ≠ n.val) (j : Fin 8) : i ≠ trackA n j := by
  simp only [trackA, Ne, Fin.ext_iff]
  omega

theorem ne_trackB {i : Fin 192} (h : i.val / 16 ≠ n.val) (j : Fin 8) : i ≠ trackB n j := by
  simp only [trackB, Ne, Fin.ext_iff]
  omega

variable (sources : Vector Source 192) (c : Content)

theorem pushPacket_trackA (j k : Fin 8) :
    (pushPacket sources n j c)[trackA n k] =
      if j = k then arriveAll sources[trackA n k] (arrivalsA c) else sources[trackA n k] := by
  rw [pushPacket, bankModify_other _ _ (trackA_ne_trackB n k j)]
  split
  · next h =>
    subst h
    exact bankModify_get_self _ _ _
  · next h => exact bankModify_other _ _ fun e => h ((trackA_inj n).1 e).symm

theorem pushPacket_trackB (j k : Fin 8) :
    (pushPacket sources n j c)[trackB n k] =
      if j = k then arriveAll sources[trackB n k] (arrivalsB c) else sources[trackB n k] := by
  rw [pushPacket]
  split
  · next h =>
    subst h
    refine (bankModify_get_self _ _ _).trans ?_
    exact congrArg (arriveAll · (arrivalsB c)) (bankModify_other _ _ (trackA_ne_trackB n j j).symm)
  · next h =>
    rw [bankModify_other _ _ fun e => h ((trackB_inj n).1 e).symm, bankModify_other _ _ (trackA_ne_trackB n j k).symm]

/-- A packet reaches no source of another lane (R128). -/
theorem pushPacket_other (j : Fin 8) {i : Fin 192} (h : i.val / 16 ≠ n.val) : (pushPacket sources n j c)[i] = sources[i] := by
  rw [pushPacket, bankModify_other _ _ (ne_trackB n h j), bankModify_other _ _ (ne_trackA n h j)]

end

/-! ## Good own packets of a bundle (R124) -/

section
variable (j : Fin 8) {packet : List Word}

theorem goodPackets_append (ps qs : List (List Word)) : goodPackets j (ps ++ qs) = goodPackets j ps ++ goodPackets j qs :=
  List.filterMap_append

theorem goodPackets_good {k : Fin 8} {seq : Byte} {c : Content} (h : classify packet = .good k seq c) :
    goodPackets j [packet] = if k = j then [(seq, c)] else [] := by
  by_cases hj : k = j
  · simp [goodPackets, h, hj]
  · simp [goodPackets, h, hj]

theorem goodPackets_not_good (h : ∀ k seq c, classify packet ≠ .good k seq c) : goodPackets j [packet] = [] := by
  cases hc : classify packet with
  | good k seq c => exact absurd hc (h k seq c)
  | foreign | checkError | malformed => simp [goodPackets, hc]

end

/-! ## Packets taken in line order (R124, R126, R128, R129) -/

/-- What the packets leave of the receive side `w`: the counters of bad packets, the sequence check and the arrivals of the good ones,
in line order. -/
structure PacketsTaken (n : Fin 8) (packets : List (List Word)) (w w' : Reception) : Prop where
  frame      : w'.lane = { w.lane with
    checkError := w'.lane.checkError, malformed := w'.lane.malformed, inBundles := w'.lane.inBundles }
  checkError : w.lane.checkError ≤ 65535 →
    w'.lane.checkError = min (w.lane.checkError + packets.countP fun p => classify p == .checkError) 65535
  malformed  : w.lane.malformed ≤ 65535 →
    w'.lane.malformed = min (w.lane.malformed + packets.countP fun p => classify p == .malformed) 65535
  bundle     : ∀ j : Fin 8,
    w'.lane.inBundles[j] = (goodPackets j packets).foldl (fun b p => seqCheck b p.1) w.lane.inBundles[j]
  tracksA    : ∀ j : Fin 8, w'.sources[trackA n j] =
    arriveAll w.sources[trackA n j] ((goodPackets j packets).flatMap fun p => arrivalsA p.2)
  tracksB    : ∀ j : Fin 8, w'.sources[trackB n j] =
    arriveAll w.sources[trackB n j] ((goodPackets j packets).flatMap fun p => arrivalsB p.2)
  others     : ∀ i : Fin 192, i.val / 16 ≠ n.val → w'.sources[i] = w.sources[i]

section
variable {n : Fin 8} {w w' w'' : Reception}

theorem PacketsTaken.nil (w : Reception) : PacketsTaken n [] w w where
  frame      := rfl
  checkError := fun h => (min_eq_left h).symm
  malformed  := fun h => (min_eq_left h).symm
  bundle     := fun _ => rfl
  tracksA    := fun _ => rfl
  tracksB    := fun _ => rfl
  others     := fun _ _ => rfl

theorem PacketsTaken.append {ps qs : List (List Word)} (h : PacketsTaken n ps w w') (h' : PacketsTaken n qs w' w'') :
    PacketsTaken n (ps ++ qs) w w'' where
  frame := by rw [h'.frame, h.frame]
  checkError hw := by
    rw [h'.checkError (by rw [h.checkError hw]; omega), h.checkError hw, List.countP_append]
    omega
  malformed hw := by
    rw [h'.malformed (by rw [h.malformed hw]; omega), h.malformed hw, List.countP_append]
    omega
  bundle j := by rw [h'.bundle j, h.bundle j, goodPackets_append, List.foldl_append]
  tracksA j := by rw [h'.tracksA j, h.tracksA j, goodPackets_append, List.flatMap_append, arriveAll_append]
  tracksB j := by rw [h'.tracksB j, h.tracksB j, goodPackets_append, List.flatMap_append, arriveAll_append]
  others i hi := (h'.others i hi).trans (h.others i hi)

/-- A packet that is not a good own one reaches neither a bundle nor a source (R124). -/
theorem PacketsTaken.of_not_good {packet : List Word} (hgood : ∀ k seq c, classify packet ≠ .good k seq c)
    (hbundles : w'.lane.inBundles = w.lane.inBundles) (hsources : w'.sources = w.sources)
    (hframe : w'.lane = { w.lane with checkError := w'.lane.checkError, malformed := w'.lane.malformed })
    (hcheck : w'.lane.checkError = if classify packet = .checkError then satAdd w.lane.checkError 1 else w.lane.checkError)
    (hmal : w'.lane.malformed = if classify packet = .malformed then satAdd w.lane.malformed 1 else w.lane.malformed) :
    PacketsTaken n [packet] w w' where
  frame := by rw [hbundles]; exact hframe
  checkError hw := by
    rw [hcheck]
    by_cases h : classify packet = .checkError
    · simp [h, satAdd]
    · simp [h, hw]
  malformed hw := by
    rw [hmal]
    by_cases h : classify packet = .malformed
    · simp [h, satAdd]
    · simp [h, hw]
  bundle j := by rw [hbundles, goodPackets_not_good j hgood]; rfl
  tracksA j := by rw [hsources, goodPackets_not_good j hgood]; rfl
  tracksB j := by rw [hsources, goodPackets_not_good j hgood]; rfl
  others i _ := by rw [hsources]

theorem PacketsTaken.of_good {packet : List Word} {k : Fin 8} {seq : Byte} {c : Content} (h : classify packet = .good k seq c)
    (list : List Received) :
    PacketsTaken n [packet] w ⟨{ w.lane with inBundles := bankModify w.lane.inBundles k fun b => seqCheck b seq },
      pushPacket w.sources n k c, list⟩ where
  frame := rfl
  checkError hw := by simp [h, hw]
  malformed hw := by simp [h, hw]
  bundle j := by
    rw [goodPackets_good j h]
    by_cases hj : k = j
    · subst hj
      rw [if_pos rfl]
      exact bankModify_get_self _ _ _
    · rw [if_neg hj]
      exact bankModify_other _ _ (Ne.symm hj)
  tracksA j := by
    rw [goodPackets_good j h, pushPacket_trackA]
    by_cases hj : k = j <;> simp [hj, arriveAll]
  tracksB j := by
    rw [goodPackets_good j h, pushPacket_trackB]
    by_cases hj : k = j <;> simp [hj, arriveAll]
  others i hi := pushPacket_other n _ _ k hi

theorem receivePacket_taken (n : Fin 8) (w : Reception) (packet : List Word) :
    PacketsTaken n [packet] w (receivePacket n w packet) := by
  unfold receivePacket
  cases hc : classify packet with
  | foreign | checkError | malformed =>
    exact .of_not_good (by simp [hc]) rfl rfl rfl (by simp [hc]) (by simp [hc])
  | good k seq c => exact .of_good hc _

theorem receivePackets_taken (n : Fin 8) (w : Reception) (packets : List (List Word)) :
    PacketsTaken n packets w (packets.foldl (receivePacket n) w) := by
  induction packets generalizing w with
  | nil => exact .nil w
  | cons p ps ih => exact (receivePacket_taken n w p).append (ih (receivePacket n w p))

end

/-! ## The line event (R115 to R118, R131) -/

/-- A lane as its words are parsed: a pending SET_LANE in force, PRESENT (R117, R118, R131). -/
theorem laneAtLine_eq (l : Lane) :
    laneAtLine l = { l with
      presence := .present 0, changeFlag := l.changeFlag || l.presence == .absent
      settings := l.pendingSettings.getD l.settings, pendingSettings := none, pointer := (laneAtLine l).pointer } := by
  have habsent : ∀ l : Lane, isAbsent l = (l.presence == .absent) := fun l => by
    unfold isAbsent
    cases l.presence <;> rfl
  cases h : l.pendingSettings with
  | none =>
    rw [laneAtLine, bringSettings_none h, becomePresent, habsent]
    cases l
    cases h
    rfl
  | some st =>
    rw [laneAtLine, bringSettings_some h, becomePresent, habsent]
    rfl

/-- The receive side after a line: the words beyond the 64th counted, its packets taken, a TRUNCATED one counted (R115, R123). -/
theorem receiveLine_taken (n : Fin 8) (lane : Lane) (sources : Vector Source 192) (words : List Word) :
    ∃ w : Reception,
      PacketsTaken n (parseLine (words.take 64)).1
        ⟨{ lane with excess := min (lane.excess + (words.length - 64)) 65535 }, sources, []⟩ w ∧
      (receiveLine n lane sources words).sources = w.sources ∧
      (receiveLine n lane sources words).lane = { w.lane with
        truncated := min (w.lane.truncated + if (parseLine (words.take 64)).2 then 1 else 0) 65535 } :=
  ⟨_, receivePackets_taken n _ _, rfl, rfl⟩

theorem lineEvent_lane_self (n : Fin 8) (line : Nat) (words : List Word) (s : State) :
    (lineEvent n line words s).lanes[n] =
      transmitLine (receiveLine n (laneAtLine s.lanes[n]) s.monitor.sources words).lane line
        (receiveLine n (laneAtLine s.lanes[n]) s.monitor.sources words).list := by
  rw [lineEvent_lanes]
  exact bankSet_get_self _ _ _

theorem lineEvent_lane_other {n m : Fin 8} (line : Nat) (words : List Word) (s : State) (h : m ≠ n) :
    (lineEvent n line words s).lanes[m] = s.lanes[m] := by
  rw [lineEvent_lanes]
  exact bankSet_other _ _ h

/-- Settles O48: the packets of the line taken one by one, the sequence check, and the arrivals. -/
theorem lineEventReceivesEveryPacket : Obligations.LineEventReceivesEveryPacket := by
  refine ⟨fun n line words s hl hr => ?_, fun b c => ⟨rfl, fun h => seqCheck_none h c, fun r h => seqCheck_some h c⟩,
    fun src e es => ⟨rfl, rfl, arrive_idle_closeMark, fun hs hf x => ?_, fun hs hlen => ?_, fun hs hlen => ?_⟩⟩
  · obtain ⟨w, htaken, hsources, hlane⟩ := receiveLine_taken n (laneAtLine s.lanes[n]) s.monitor.sources words
    refine ⟨lineEvent n line words s, doneWith_inputLineEvent n words hr hl, rfl,
      fun m hm => lineEvent_lane_other line words s hm, ?_⟩
    have hframe := htaken.frame
    have hcheck := htaken.checkError
    have hmal := htaken.malformed
    have hbundle := htaken.bundle
    rw [laneAtLine_eq] at hframe hcheck hmal hbundle
    simp only [lineEvent_lane_self, transmitLine_presence, transmitLine_changeFlag, transmitLine_settings,
      transmitLine_pendingSettings, transmitLine_excess, transmitLine_truncated, transmitLine_checkError,
      transmitLine_malformed, transmitLine_inBundles, hlane, lineEvent_monitor, hsources]
    refine ⟨by rw [hframe], by rw [hframe], by rw [hframe], by rw [hframe], by rw [hframe], fun hok => ?_,
      htaken.others, fun j a b ha hb => ⟨hbundle j, ?_, ?_⟩⟩
    · obtain ⟨-, -, hcheckError, hmalformed⟩ := hok.counters
      exact ⟨by rw [hframe], hcheck hcheckError, hmal hmalformed⟩
    · obtain rfl := trackA_eq ha
      exact htaken.tracksA j
    · obtain rfl := trackB_eq hb
      exact htaken.tracksB j
  · refine (arrive_primes (.inl hs) (by simp [hf]) x).trans ?_
    rw [hf]
    rfl
  · exact (arrive_notIdle hs e).trans (if_pos hlen)
  · exact (arrive_notIdle hs e).trans (if_neg (not_lt.2 hlen))

end Sys2Proof.Machine
end

section
/-!
The packets of a line (chapter 7; R143, R144): the check value bit by bit, the parser word by word, the class of a complete packet, and
the own packets of the arbiter as a receiver takes them back.
-/
namespace Sys2Proof.Machine

/-! ## The check value bit by bit (R121) -/

/-- A bit fed into the check register, on the number the register holds. -/
theorem crcBit_toNat (reg : Word) (bit : Bool) : (crcBit reg bit).toNat = checkBit reg.toNat bit := by
  have hmsb : reg.msb = decide (32768 ≤ reg.toNat) := BitVec.msb_eq_decide reg
  have hshift : (reg <<< 1).toNat = reg.toNat * 2 % 65536 := by
    rw [BitVec.toNat_shiftLeft, Nat.shiftLeft_eq]
  rw [crcBit, checkBit, hmsb]
  split
  · exact hshift
  · rw [BitVec.toNat_xor, hshift]
    rfl

/-- The words are fed as their bits. -/
theorem checkValue_eq_foldl_bits (words : List Word) : checkValue words = (bitsOf words).foldl crcBit 0xFFFF#16 := by
  simp only [checkValue, bitsOf, List.foldl_flatMap, List.foldl_map]
  rfl

theorem checkValue_toNat (words : List Word) : (checkValue words).toNat = (bitsOf words).foldl checkBit 0xFFFF := by
  rw [checkValue_eq_foldl_bits]
  exact (List.foldl_hom BitVec.toNat fun reg bit => (crcBit_toNat reg bit).symm).symm

/-! ## The parser word by word (R122, R123) -/

theorem parseLine_nil : parseLine [] = ([], false) := rfl

theorem parseLine_idle (ws : List Word) : parseLine (0#16 :: ws) = parseLine ws := rfl

section
variable {m len : Word} (hm : m ≠ 0#16)
include hm

theorem parseLine_marker_alone : parseLine [m] = ([], true) := if_neg hm

theorem parseLine_truncated {ws : List Word} (h : ws.length < len.toNat + 1) : parseLine (m :: len :: ws) = ([], true) :=
  (if_neg hm).trans (if_pos h)

/-- A whole packet is taken and the rest parsed as a line of its own. -/
theorem parseLine_packet {ws : List Word} (h : len.toNat + 1 ≤ ws.length) : parseLine (m :: len :: ws) =
    ((m :: len :: ws.take (len.toNat + 1)) :: (parseLine (ws.drop (len.toNat + 1))).1,
      (parseLine (ws.drop (len.toNat + 1))).2) := by
  have hrest : huntPackets (ws.length + 1) (ws.drop (len.toNat + 1)) = parseLine (ws.drop (len.toNat + 1)) :=
    huntPackets_fuel (by simp only [List.length_drop]; omega) le_rfl
  rw [← hrest]
  exact (if_neg hm).trans (if_neg (not_lt.2 h))

end

theorem parseLine_whole_append {p : List Word} (hp : WholePacket p) (ws : List Word) :
    parseLine (p ++ ws) = (p :: (parseLine ws).1, (parseLine ws).2) := by
  obtain ⟨m, len, body, rfl, hm, hbody⟩ := hp
  have hroom : len.toNat + 1 ≤ (body ++ ws).length := by
    rw [List.length_append]
    omega
  rw [List.cons_append, List.cons_append, parseLine_packet hm hroom, List.take_left' hbody, List.drop_left' hbody]

theorem parseLine_idles (k : Nat) : parseLine (List.replicate k 0#16) = ([], false) := by
  induction k with
  | zero => rfl
  | succ k ih => rw [List.replicate_succ, parseLine_idle, ih]

/-- Packets back to back before idle words are taken back (R122, R139). -/
theorem parseLine_flatten {packets : List (List Word)} (h : ∀ p ∈ packets, WholePacket p) (idle : Nat) :
    parseLine (packets.flatten ++ List.replicate idle 0#16) = (packets, false) := by
  induction packets with
  | nil => exact parseLine_idles idle
  | cons p ps ih =>
    obtain ⟨hp, hps⟩ := List.forall_mem_cons.1 h
    rw [List.flatten_cons, List.append_assoc, parseLine_whole_append hp, ih hps]

/-! ## The fields of marker and header (R177) -/

theorem markerOwner_eq (m : Word) : markerOwner m = m.toNat / 256 := by
  have hlt := m.isLt
  rw [markerOwner, hiByte, BitVec.extractLsb'_toNat, Nat.shiftRight_eq_div_pow]
  omega

theorem markerKind_eq (m : Word) : markerKind m = m.toNat / 8 % 32 := by
  simp [markerKind, Nat.shiftRight_eq_div_pow]

theorem markerBundle_eq {m : Word} {j : Fin 8} (h : j.val = m.toNat % 8) : markerBundle m = j := by
  apply Fin.ext
  simp [markerBundle, h]

theorem loByte_toNat (w : Word) : (loByte w).toNat = w.toNat % 256 := by
  simp [loByte]

theorem hiByte_eq {w : Word} {b : Byte} (h : b.toNat = w.toNat / 256) : hiByte w = b :=
  BitVec.eq_of_toNat_eq ((markerOwner_eq w).trans h.symm)

/-! ## The class of a complete packet (R119, R120, R124) -/

section
variable {m len check : Word} {payload : List Word}

theorem classify_foreign (h : markerOwner m ≠ 0xB7) : classify (m :: len :: (payload ++ [check])) = .foreign := if_pos h

variable (hown : markerOwner m = 0xB7)
include hown

/-- An own packet whose check word is judged (R121, R124). -/
theorem classify_own : classify (m :: len :: (payload ++ [check])) =
    if check ≠ checkValue (m :: len :: payload) then .checkError
    else match contentOf (markerKind m) payload with
      | none => .malformed
      | some (seq, content) => .good (markerBundle m) seq content := by
  have hlast : (m :: len :: (payload ++ [check])).getLast? = some check := List.getLast?_concat (l := m :: len :: payload)
  have hbody : (m :: len :: (payload ++ [check])).dropLast = m :: len :: payload :=
    List.dropLast_concat (l₁ := m :: len :: payload)
  refine (if_neg (not_not.2 hown)).trans ?_
  rw [hlast, hbody]
  exact if_congr (not_congr (Option.some_inj ..)) rfl rfl

theorem classify_checkError (h : check ≠ checkValue (m :: len :: payload)) :
    classify (m :: len :: (payload ++ [check])) = .checkError :=
  (classify_own hown).trans (if_pos h)

variable (hcheck : check = checkValue (m :: len :: payload))
include hcheck

theorem classify_malformed (h : contentOf (markerKind m) payload = none) :
    classify (m :: len :: (payload ++ [check])) = .malformed := by
  rw [classify_own hown, if_neg (not_not.2 hcheck), h]

theorem classify_content {seq : Byte} {c : Content} (h : contentOf (markerKind m) payload = some (seq, c)) :
    classify (m :: len :: (payload ++ [check])) = .good (markerBundle m) seq c := by
  rw [classify_own hown, if_neg (not_not.2 hcheck), h]

end

/-! ## The table of kinds (R120) -/

section
variable {header : Word} {rest : List Word}

theorem framesOfWords_frameWords (f : Frame) (ws : List Word) :
    framesOfWords (frameWords f ++ ws) = f :: framesOfWords ws := by
  have ha : f.a.extractLsb' 8 16 ++ f.a.extractLsb' 0 8 = f.a := by
    rw [BitVec.extractLsb'_append_extractLsb'_eq_extractLsb' (by decide)]
    exact BitVec.extractLsb'_eq_self
  have hb : f.b.extractLsb' 16 8 ++ f.b.extractLsb' 0 16 = f.b := by
    rw [BitVec.extractLsb'_append_extractLsb'_eq_extractLsb' (by decide)]
    exact BitVec.extractLsb'_eq_self
  simp only [frameWords, List.cons_append, List.nil_append, framesOfWords, hiByte_wordOf, loByte_wordOf, ha, hb]

theorem framesOfWords_flatMap (frames : List Frame) : framesOfWords (frames.flatMap frameWords) = frames := by
  induction frames with
  | nil => rfl
  | cons f fs ih => rw [List.flatMap_cons, framesOfWords_frameWords, ih]

theorem contentOf_samples {frames : List Frame} (h1 : 1 ≤ frames.length) (h4 : frames.length ≤ 4)
    (hn : (loByte header).toNat = frames.length) :
    contentOf 1 (header :: frames.flatMap frameWords) = some (hiByte header, .samples frames) := by
  refine (if_pos ⟨rfl, by omega, by omega, ?_⟩).trans (by rw [framesOfWords_flatMap])
  rw [flatMap_frameWords_length, hn]

theorem contentOf_silent (h1 : 1 ≤ (loByte header).toNat) (h4 : (loByte header).toNat ≤ 4) :
    contentOf 2 [header] = some (hiByte header, .silent (loByte header).toNat) := by
  simp [contentOf, h1, h4]

theorem contentOf_close (h0 : (loByte header).toNat = 0) : contentOf 3 [header] = some (hiByte header, .close) := by
  simp [contentOf, h0]

/-- Every other kind, n and length is MALFORMED (R120, R124). -/
theorem contentOf_none {kind : Nat}
    (hsamples : ¬ (kind = 1 ∧ 1 ≤ (loByte header).toNat ∧ (loByte header).toNat ≤ 4 ∧
      rest.length = 3 * (loByte header).toNat))
    (hsilent : ¬ (kind = 2 ∧ 1 ≤ (loByte header).toNat ∧ (loByte header).toNat ≤ 4 ∧ rest = []))
    (hclose : ¬ (kind = 3 ∧ (loByte header).toNat = 0 ∧ rest = [])) : contentOf kind (header :: rest) = none := by
  rw [← List.length_eq_zero_iff] at hsilent hclose
  exact (if_neg hsamples).trans ((if_neg hsilent).trans (if_neg hclose))

end

/-! ## Own packets taken back (R143, R144) -/

theorem markerOwner_ownMarker (k : PacketKind) (j : Fin 8) : markerOwner (ownMarker k j) = 0xB7 := by
  rw [markerOwner, ownMarker, hiByte_wordOf]
  rfl

theorem ownMarker_toNat (k : PacketKind) (j : Fin 8) : (ownMarker k j).toNat = 0xB7 * 256 + kindValue k * 8 + j.val := by
  revert j
  cases k <;> decide

theorem markerKind_ownMarker (k : PacketKind) (j : Fin 8) : markerKind (ownMarker k j) = kindValue k := by
  have hkind : kindValue k < 32 := by cases k <;> decide
  rw [markerKind_eq, ownMarker_toNat]
  omega

theorem markerBundle_ownMarker (k : PacketKind) (j : Fin 8) : markerBundle (ownMarker k j) = j := by
  refine markerBundle_eq ?_
  rw [ownMarker_toNat]
  omega

theorem classify_ownPacket {k : PacketKind} {j : Fin 8} {seq seq' : Byte} {n : Nat} {frames : List Frame} {c : Content}
    (h : contentOf (kindValue k) (wordOf seq (BitVec.ofNat 8 n) :: frames.flatMap frameWords) = some (seq', c)) :
    classify (ownPacket k j seq n frames) = .good j seq' c := by
  rw [← markerKind_ownMarker k j] at h
  refine (classify_content (markerOwner_ownMarker k j) rfl h).trans ?_
  rw [markerBundle_ownMarker]

/-- The length word of an own packet of at most 4 frames holds its length, so the parser takes it whole. -/
theorem wholePacket_ownPacket (k : PacketKind) (j : Fin 8) (seq : Byte) (n : Nat) {frames : List Frame}
    (h4 : frames.length ≤ 4) : WholePacket (ownPacket k j seq n frames) := by
  refine ⟨_, _, _, rfl, fun h0 => ?_, ?_⟩
  · have hown := markerOwner_ownMarker k j
    rw [h0] at hown
    cases hown
  · rw [List.append_eq, List.length_append, List.length_cons, flatMap_frameWords_length, BitVec.toNat_ofNat, Nat.mod_eq_of_lt (by omega)]
    rfl

theorem classify_close (j : Fin 8) (seq : Byte) : classify (ownPacket .close j seq 0 []) = .good j seq .close := by
  refine classify_ownPacket ((contentOf_close ?_).trans ?_)
  · rw [loByte_wordOf]
    rfl
  · rw [hiByte_wordOf]

section
variable {frames : List Frame} (h1 : 1 ≤ frames.length) (h4 : frames.length ≤ 4) (j : Fin 8) (seq : Byte)
include h4

theorem loByte_header : (loByte (wordOf seq (BitVec.ofNat 8 frames.length))).toNat = frames.length := by
  rw [loByte_wordOf, BitVec.toNat_ofNat]
  exact Nat.mod_eq_of_lt (by omega)

theorem wholePacket_framePacket : WholePacket (framePacket j seq frames) := by
  unfold framePacket
  split
  · exact wholePacket_ownPacket _ _ _ _ (by decide)
  · exact wholePacket_ownPacket _ _ _ _ h4

include h1

/-- The packet of frames is taken back with its frames, or as many silent ones (R143). -/
theorem classify_framePacket : classify (framePacket j seq frames) =
    .good j seq (if allSilent frames then .silent frames.length else .samples frames) := by
  have hn := loByte_header h4 seq
  unfold framePacket
  split
  · refine classify_ownPacket ((contentOf_silent (by omega) (by omega)).trans ?_)
    rw [hn, hiByte_wordOf]
  · refine classify_ownPacket ((contentOf_samples h1 h4 hn).trans ?_)
    rw [hiByte_wordOf]

end

/-- Settles O49: own packets, then the parser, the check value, and the class of any complete packet. -/
theorem packetsAreTakenBack : Obligations.PacketsAreTakenBack := by
  refine ⟨fun j seq frames h1 h4 => ⟨classify_framePacket h1 h4 j seq, framePacket_length j seq frames,
      wholePacket_framePacket h4 j seq⟩,
    fun j seq => ⟨classify_close j seq, ownPacket_length _ _ _ _ _, wholePacket_ownPacket _ _ _ _ (by decide)⟩,
    fun packets idle h => parseLine_flatten h idle,
    ⟨parseLine_nil, parseLine_idle, fun m hm => parseLine_marker_alone hm,
      fun m len ws hm => ⟨parseLine_truncated hm, parseLine_packet hm⟩⟩,
    checkValue_toNat, fun m len check payload => ?_⟩
  simp only [← markerOwner_eq m, ← markerKind_eq m]
  refine ⟨classify_foreign, classify_checkError, fun hown hcheck => ⟨fun hpayload => ?_, ?_⟩⟩
  · exact classify_malformed hown hcheck (by rw [hpayload]; rfl)
  rintro header rest j seq rfl hj hseq
  obtain rfl := markerBundle_eq hj
  obtain rfl := hiByte_eq hseq
  simp only [← loByte_toNat]
  refine ⟨fun frames hkind h1 h4 hlen hrest => ?_, fun hkind h1 h4 hrest => ?_, fun hkind h0 hrest => ?_,
    fun hsamples hsilent hclose => classify_malformed hown hcheck (contentOf_none hsamples hsilent hclose)⟩
  · refine classify_content hown hcheck ?_
    rw [hkind, hrest]
    exact contentOf_samples (by omega) (by omega) hlen.symm
  · refine classify_content hown hcheck ?_
    rw [hkind, hrest]
    exact contentOf_silent h1 h4
  · refine classify_content hown hcheck ?_
    rw [hkind, hrest]
    exact contentOf_close h0

end Sys2Proof.Machine
end

section
/-!
SET_LANE (R131) and SET_LANE_IN_FORCE (R148).
-/
namespace Sys2Proof.Machine

/-! ## The five settings (R131, R180) -/

/-- A mode is answered exactly for the code of one (R180). -/
theorem decodePriorityMode_eq_some {b : Byte} {m : PriorityMode} : decodePriorityMode b = some m ↔
    b.toNat = 0 ∧ m = .fixed ∨ b.toNat = 1 ∧ m = .rotate := by
  unfold decodePriorityMode
  split
  · next h => simp [h, eq_comm]
  · next h => simp [h, eq_comm]
  · next h0 h1 => exact iff_of_false nofun fun h => h.elim (h0 ·.1) (h1 ·.1)

/-- A code above 1 names no mode (R180). -/
theorem decodePriorityMode_none {b : Byte} (h : 1 < b.toNat) : decodePriorityMode b = none := by
  unfold decodePriorityMode
  split
  · omega
  · omega
  · rfl

theorem priorityModeCode_of_decodePriorityMode {b : Byte} {m : PriorityMode} (h : decodePriorityMode b = some m) :
    priorityModeCode m = b := by
  refine BitVec.eq_of_toNat_eq ?_
  obtain ⟨hb, rfl⟩ | ⟨hb, rfl⟩ := decodePriorityMode_eq_some.1 h <;> rw [hb] <;> rfl

section
variable {n : Byte} {line : Word} {keep budget mode lowest : Byte}

theorem decodeLaneSettings_eq_none
    (h : line.toNat = 0 ∨ 2047 < line.toNat ∨ budget.toNat = 0 ∨ 8 < budget.toNat ∨ 1 < mode.toNat ∨ 7 < lowest.toNat) :
    decodeLaneSettings line keep budget mode lowest = none := by
  unfold decodeLaneSettings
  split
  · next md lo hmd hlo =>
    have hmode : ¬ 1 < mode.toNat := fun hn => by simp [decodePriorityMode_none hn] at hmd
    have hlowest : lo.val = lowest.toNat := toIndex_eq_some.1 hlo
    exact if_neg (by omega)
  · rfl

theorem setLane_range (lanes : Vector Lane 8)
    (h : 8 ≤ n.toNat ∨ line.toNat = 0 ∨ 2047 < line.toNat ∨ budget.toNat = 0 ∨ 8 < budget.toNat ∨ 1 < mode.toNat ∨
      7 < lowest.toNat) :
    setLane lanes n line keep budget mode lowest = (lanes, ⟨.range, []⟩) := by
  unfold setLane
  split
  · next k st hk hst =>
    have hn : k.val = n.toNat := toIndex_eq_some.1 hk
    have hbad := h.resolve_left (by omega)
    simp [decodeLaneSettings_eq_none hbad] at hst
  · rfl

variable {k lo : Fin 8} {md : PriorityMode} (hlo : lowest.toNat = lo.val) (hmd : decodePriorityMode mode = some md)
include hlo hmd

theorem laneSettingsBytes_decoded : laneSettingsBytes ⟨line.toNat, keep, budget.toNat, md, lo⟩ =
    numberCoded line.toNat ++ [keep, budget, mode, lowest] := by
  simp only [laneSettingsBytes, twoBytes_eq_numberCoded, oneByte_toNat, priorityModeCode_of_decodePriorityMode hmd, ← hlo]

/-- Settings in range become the pending settings of the lane together and are answered as they were sent (R131). -/
theorem setLane_ok (lanes : Vector Lane 8) (hn : n.toNat = k.val) (hline : 1 ≤ line.toNat) (hline' : line.toNat ≤ 2047)
    (hbudget : 1 ≤ budget.toNat) (hbudget' : budget.toNat ≤ 8) :
    setLane lanes n line keep budget mode lowest =
      (bankModify lanes k fun l => { l with pendingSettings := some ⟨line.toNat, keep, budget.toNat, md, lo⟩ },
        ⟨.ok, numberCoded line.toNat ++ [keep, budget, mode, lowest]⟩) := by
  have hdecoded : decodeLaneSettings line keep budget mode lowest = some ⟨line.toNat, keep, budget.toNat, md, lo⟩ := by
    unfold decodeLaneSettings
    rw [hmd, hlo, toIndex_val]
    exact if_pos ⟨hline, hline', hbudget, hbudget'⟩
  rw [setLane, hn, toIndex_val, hdecoded, ← laneSettingsBytes_decoded hlo hmd]
  rfl

end

/-- An event on one lane that changes nothing of it leaves the part as it is. -/
theorem bankModify_lane_id {s : State} {n : Fin 8} {f : Lane → Lane} (h : f s.lanes[n] = s.lanes[n]) :
    { s with lanes := bankModify s.lanes n f } = s := by
  rw [bankModify_id_of h]

/-- Settles O51: the request refused and made pending, the pending settings brought into force. -/
theorem laneSettingsArePendingThenInForce : Obligations.LaneSettingsArePendingThenInForce := by
  refine ⟨fun n line keep budget mode lowest s h => ⟨fun hbad => ?_, fun k lo md hn hlo hmd hl hl' hb hb' => ?_⟩,
    fun n s hr => ?_⟩
  · exact answeredWith_of_refused (exec_setLane n line keep budget mode lowest s) h (by simp only [setLane_range s.lanes hbad])
  · have ht := takenWith_of_request (exec_setLane n line keep budget mode lowest s) h
    simp only [setLane_ok hlo (decodePriorityMode_eq_some.2 hmd) s.lanes hn hl hl' hb hb'] at ht
    exact ⟨_, ht, bankModify_get_self _ _ _, fun m hm => bankModify_other _ _ hm⟩
  · have hdone := doneWith_of_event (exec_setLaneInForce n s) hr
    refine ⟨fun hnone => exec_eq_self_of_doneWith hdone (bankModify_lane_id (bringSettings_none hnone)), fun st hst => ?_⟩
    exact ⟨_, hdone, fun m hm => bankModify_other _ _ hm, (bankModify_get_self _ _ _).trans (bringSettings_some hst)⟩

end Sys2Proof.Machine
end

section
/-!
PRESENCE_TIMEOUT (R117, R118) and CLOSE_PACKET_GRANT (R138, R142 to R147; log 16).
-/
namespace Sys2Proof.Machine

/-! ## PRESENCE_TIMEOUT (R117, R118; log 3) -/

theorem presenceTimeout_ends {l : Lane} {c : Nat} (h : l.presence = .present c) (hc : 239 ≤ c) :
    presenceTimeout l = { l with presence := .absent, changeFlag := true } := by
  have hend : 240 ≤ c + 1 := by omega
  rw [presenceTimeout, h]
  exact (if_pos hend).trans (presenceTick_ends h hend)

/-- Before the 240th tick the row does nothing (log 3). -/
theorem presenceTimeout_waits {l : Lane} (h : l.presence = .absent ∨ ∃ c, l.presence = .present c ∧ c < 239) :
    presenceTimeout l = l := by
  obtain h | ⟨c, h, hc⟩ := h
  · rw [presenceTimeout, h]
  · have hwait : ¬ 240 ≤ c + 1 := by omega
    rw [presenceTimeout, h]
    exact if_neg hwait

/-! ## CLOSE_PACKET_GRANT (R138, R144; log 16) -/

theorem packetWords_eq_length_flatten (packets : List (List Word)) : packetWords packets = packets.flatten.length :=
  List.length_flatten.symm

/-- The turns split at a bundle's: those before it have passed with it (R142). -/
theorem turnsAfter_split {order : List (Fin 8)} {j : Fin 8} (h : j ∈ order) :
    ∃ before, order = before ++ j :: turnsAfter order (some j) ∧ j ∉ before := by
  induction order with
  | nil => cases h
  | cons k rest ih =>
    by_cases hk : k = j
    · subst hk
      exact ⟨[], by simp [turnsAfter], List.not_mem_nil⟩
    · have hrest : j ∈ rest := (List.mem_cons.1 h).resolve_left (Ne.symm hk)
      have hturns : turnsAfter (k :: rest) (some j) = turnsAfter rest (some j) := by
        simp [turnsAfter, hk]
      obtain ⟨before, hsplit, hbefore⟩ := ih hrest
      refine ⟨k :: before, ?_, by simp [Ne.symm hk, hbefore]⟩
      rw [hturns, List.cons_append, ← hsplit]

/-- The grant of a CLOSE presents and withdraws no request for service (R118, R154). -/
theorem closeTurn_changeFlag (lane : Lane) (j : Fin 8) : (closeTurn lane j).changeFlag = lane.changeFlag := by
  obtain ⟨-, h⟩ | ⟨l, -, -, h⟩ := closeTurn_cases lane j <;> rw [h]

/-- Lanes whose change flags are as they were make the requests they made (R154). -/
theorem requests_with_lanes {s : State} {lanes : Vector Lane 8} (h : ∀ m : Fin 8, lanes[m].changeFlag = s.lanes[m].changeFlag) :
    requests { s with lanes := lanes } = requests s := by
  unfold requests
  rw [bankAny_congr h]

/-- The row on a part that takes events leaves exactly the turn of the bundle: it cannot start a pulse. -/
theorem exec_closePacketGrant_taken (n j : Fin 8) {s : State} (hr : s.rstLow = false) :
    exec (.closePacketGrant n j) s = .next { s with lanes := bankModify s.lanes n fun l => closeTurn l j } := by
  refine exec_eq_of_doneWith (doneWith_of_event (exec_closePacketGrant n j s) hr) (requests_with_lanes fun m => ?_) rfl
  by_cases hm : m = n
  · subst hm
    exact (congrArg _ (bankModify_get_self _ _ _)).trans (closeTurn_changeFlag _ j)
  · rw [bankModify_other _ _ hm]

section
variable {lane : Lane} {l : OutLine} {j : Fin 8} (hline : lane.outLine = some l)
include hline

theorem closeTurn_of_takes (h : takesClose lane l j = true) :
    closeTurn lane j = { lane with
      outBundles := bankSet lane.outBundles j
        { lane.outBundles[j] with activity := .inactive, seq := lane.outBundles[j].seq + 1#8 }
      pointer    := nextPointer lane (some j)
      outLine    := some ⟨l.number, l.packets ++ [ownPacket .close j lane.outBundles[j].seq 0 []], l.granted + 1,
        turnsAfter l.turns (some j)⟩ } := by
  obtain ⟨hnot, -⟩ | ⟨l', hl', -, heq⟩ := closeTurn_cases lane j
  · rw [hnot l hline] at h
    cases h
  · rw [hline] at hl'
    cases hl'
    exact heq

theorem closeTurn_of_not_takes (h : ¬ takesClose lane l j = true) : closeTurn lane j = lane := by
  obtain ⟨-, heq⟩ | ⟨l', hl', htakes, -⟩ := closeTurn_cases lane j
  · exact heq
  · rw [hline] at hl'
    cases hl'
    exact absurd htakes h

end

/-- Settles O53: the timeout of a lane, and the turn of a drained bundle in the lane's output line. -/
theorem laneEndsAndCloses : Obligations.LaneEndsAndCloses := by
  refine ⟨fun n s hr => ⟨fun c hp hc => ?_, fun hwait => ?_⟩, fun n j l s hr hline => ?_⟩
  · exact ⟨_, doneWith_of_event (exec_presenceTimeout n s) hr,
      (bankModify_get_self _ _ _).trans (presenceTimeout_ends hp hc), fun m hm => bankModify_other _ _ hm⟩
  · exact exec_eq_self_of_doneWith (doneWith_of_event (exec_presenceTimeout n s) hr)
      (bankModify_lane_id (presenceTimeout_waits hwait))
  intro ready
  have hready : ready ↔ takesClose s.lanes[n] l j = true := by
    rw [takesClose_iff, packetWords_eq_length_flatten]
    constructor
    · rintro ⟨hclosing, hempty, hturn, hwords, hbudget⟩
      exact ⟨hclosing, hempty, hturn, hbudget, by omega⟩
    · rintro ⟨hclosing, hempty, hturn, hbudget, hwords⟩
      exact ⟨hclosing, hempty, hturn, by omega, hbudget⟩
  refine ⟨fun hnot => ?_, fun h => ?_⟩
  · rw [exec_closePacketGrant_taken n j hr, bankModify_lane_id (closeTurn_of_not_takes hline (mt hready.2 hnot))]
  · have hself : (bankModify s.lanes n fun lane => closeTurn lane j)[n] = _ :=
      (bankModify_get_self _ _ _).trans (closeTurn_of_takes hline (hready.1 h))
    obtain ⟨-, -, hturn, -⟩ := h
    refine ⟨_, _, turnsAfter l.turns (some j), exec_closePacketGrant_taken n j hr, classify_close j _,
      ownPacket_length _ _ _ _ _, fun m hm => bankModify_other _ _ hm, ?_, turnsAfter_split hturn, ?_, fun k hk => ?_⟩
    · rw [hself]
      rfl
    · rw [hself]
      exact bankSet_get_self _ _ _
    · rw [hself]
      exact bankSet_other _ _ hk

end Sys2Proof.Machine
end

section
/-!
INPUT_LINE_EVENT at the transmit side (R134, R138 to R147): the packets kept, what the visit of a bundle can grant it, the grants of a
whole line, and the turns it has left (log 16).
-/
namespace Sys2Proof.Machine

/-! ## The kept packets (R125, R139, R140) -/

/-- Is a complete packet of the input line in the received packet list and kept? (R125, R140) -/
def keepsPacket (keepMask : Byte) (bundles : Vector OutBundle 8) (p : List Word) : Bool :=
  match classify p with
  | .foreign => true
  | .good j _ _ => keepMask.getLsbD j.val && bundles[j].activity == .inactive
  | .checkError | .malformed => false

theorem keptPackets_append (lane : Lane) (l l' : List Received) :
    keptPackets lane (l ++ l') = keptPackets lane l ++ keptPackets lane l' := by
  rw [keptPackets, List.filter_append, List.map_append]
  rfl

theorem keptPackets_receivePacket (lane : Lane) (n : Fin 8) (w : Reception) (p : List Word) :
    keptPackets lane (receivePacket n w p).list =
      keptPackets lane w.list ++ [p].filter (keepsPacket lane.settings.keepMask lane.outBundles) := by
  unfold receivePacket
  cases h : classify p with
  | checkError | malformed => simp [keepsPacket, h]
  | foreign | good j seq c =>
    rw [keptPackets_append]
    simp [keptPackets, isKept, keepsPacket, h, List.filter_cons, apply_ite]

theorem keptPackets_receivePackets (lane : Lane) (n : Fin 8) (w : Reception) (packets : List (List Word)) :
    keptPackets lane (packets.foldl (receivePacket n) w).list =
      keptPackets lane w.list ++ packets.filter (keepsPacket lane.settings.keepMask lane.outBundles) := by
  induction packets generalizing w with
  | nil => exact (List.append_nil _).symm
  | cons p ps ih =>
    rw [List.foldl_cons, ih, keptPackets_receivePacket, List.append_assoc, ← List.filter_append, List.singleton_append]

/-- The packets kept of a line are those of its complete packets that are kept one by one, in line order. -/
theorem keptPackets_receiveLine (lane lane' : Lane) (n : Fin 8) (sources : Vector Source 192) (words : List Word) :
    keptPackets lane (receiveLine n lane' sources words).list =
      (parseLine (words.take 64)).1.filter (keepsPacket lane.settings.keepMask lane.outBundles) :=
  keptPackets_receivePackets lane n _ _

theorem packetWords_le_of_sublist {ps qs : List (List Word)} (h : ps.Sublist qs) : packetWords ps ≤ packetWords qs :=
  (h.map _).sum_le_sum fun _ _ => Nat.zero_le _

/-- Kept packets fit the line they came in (R139). -/
theorem packetWords_kept_le (words : List Word) (keeps : List Word → Bool) :
    packetWords ((parseLine (words.take 64)).1.filter keeps) ≤ 64 :=
  calc packetWords ((parseLine (words.take 64)).1.filter keeps)
      ≤ packetWords (parseLine (words.take 64)).1 := packetWords_le_of_sublist List.filter_sublist
    _ ≤ (words.take 64).length := huntPackets_words _ _
    _ ≤ 64 := List.length_take_le _ _

/-! ## The turn of a bundle (R138, R142 to R146) -/

/-- A bundle granted a packet in its turn: the CLOSE of a drained CLOSING bundle, or its oldest frames, as many as fit the free words. -/
def PacketGranted (j : Fin 8) (free : Nat) (b b' : OutBundle) (p : List Word) : Prop :=
  (b.activity = .closing ∧ b.fifo = [] ∧ classify p = .good j b.seq .close ∧
    b' = { b with activity := .inactive, seq := b.seq + 1#8 }) ∨
  ∃ c, 1 ≤ c ∧ c ≤ 4 ∧ c ≤ b.fifo.length ∧
    (∀ c', c < c' → c' ≤ 4 → c' ≤ b.fifo.length → FramesTooLong (b.fifo.take c') free) ∧
    classify p = .good j b.seq (if allSilent (b.fifo.take c) then .silent c else .samples (b.fifo.take c)) ∧
    b' = { b with fifo := b.fifo.drop c, seq := b.seq + 1#8 }

/-- A turn that ends in a grant: the packet is whole and has its words free (R143, R144). -/
structure TurnGranted (j : Fin 8) (free : Nat) (b b' : OutBundle) (p : List Word) : Prop where
  packet : PacketGranted j free b b' p
  whole  : WholePacket p
  fits   : p.length ≤ free

/-- The arbiter after a packet has been placed, which leaves the bundle as given (R144, R145). -/
def placePacket (w : Arbiter) (j : Fin 8) (p : List Word) (b' : OutBundle) : Arbiter :=
  { w with
    bundles := bankSet w.bundles j b', packets := w.packets ++ [p], free := w.free - p.length, granted := w.granted + 1
    last := some j }

section
variable {w : Arbiter} {j : Fin 8}

theorem turnGranted_close (hclosing : w.bundles[j].activity = .closing) (hempty : w.bundles[j].fifo = []) (hfree : 4 ≤ w.free) :
    ∃ p b', TurnGranted j w.free w.bundles[j] b' p ∧ grantClose w j = placePacket w j p b' :=
  ⟨_, _, ⟨.inl ⟨hclosing, hempty, classify_close j _, rfl⟩, wholePacket_ownPacket _ _ _ _ (by decide),
    (ownPacket_length _ _ _ _ _).trans_le hfree⟩, rfl⟩

theorem turnGranted_frames {c : Nat} (h : offerSize w.bundles[j].fifo w.free = some c) :
    ∃ p b', TurnGranted j w.free w.bundles[j] b' p ∧ grantFrames w j c = placePacket w j p b' := by
  obtain ⟨h1, h4, hle, hfits, hlargest⟩ := offerSize_spec h
  have hlen : (w.bundles[j].fifo.take c).length = c := List.length_take_of_le hle
  have hclass := classify_framePacket (frames := w.bundles[j].fifo.take c) (by omega) (by omega) j w.bundles[j].seq
  rw [hlen] at hclass
  exact ⟨_, _, ⟨.inr ⟨c, h1, h4, hle, hlargest, hclass, rfl⟩, wholePacket_framePacket (by omega) _ _,
    (framePacket_length _ _ _).trans_le hfits⟩, rfl⟩

/-- The visit of a bundle while the arbitration goes on: nothing without a request, the end when nothing can be offered, else a grant. -/
theorem visitBundle_running {budget : Nat} (hrun : w.ended = false) (hbudget : w.granted < budget) :
    (¬ Requests w.bundles[j] ∧ visitBundle budget w j = w) ∨
    (Requests w.bundles[j] ∧ NothingFits w.bundles[j] w.free ∧ visitBundle budget w j = { w with ended := true }) ∨
    (Requests w.bundles[j] ∧ ∃ p b', TurnGranted j w.free w.bundles[j] b' p ∧ visitBundle budget w j = placePacket w j p b') := by
  obtain ⟨hidle, hv⟩ | ⟨-, -, hnone, hv⟩ | ⟨-, -, hempty, hclosing, hfree, hv⟩ | ⟨-, -, c, hc, hv⟩ :=
    visitBundle_cases budget w j
  · obtain hended | hused | ⟨hempty, hactivity⟩ := hidle
    · simp [hrun] at hended
    · omega
    · exact .inl ⟨not_or.2 ⟨not_not.2 hempty, hactivity⟩, hv⟩
  · refine .inr (.inl ?_)
    obtain ⟨hempty, hclosing, hfree⟩ | ⟨hfifo, hnone⟩ := hnone
    · refine ⟨.inr hclosing, ⟨fun _ => hfree, fun c h1 _ hle => ?_⟩, hv⟩
      rw [hempty] at hle
      exact absurd hle (Nat.not_le.2 h1)
    · exact ⟨.inl hfifo, ⟨fun hempty => absurd hempty hfifo, offerSize_none hnone⟩, hv⟩
  · rw [hv]
    exact .inr (.inr ⟨.inr hclosing, turnGranted_close hclosing hempty hfree⟩)
  · rw [hv]
    obtain ⟨h1, -, hle, -⟩ := offerSize_spec hc
    exact .inr (.inr ⟨.inl (List.ne_nil_of_length_pos (by omega)), turnGranted_frames hc⟩)

/-- Once the arbitration has ended or the budget is used up, no visit does anything (R146). -/
theorem foldl_visitBundle_ended {budget : Nat} (h : w.ended = true ∨ budget ≤ w.granted) (order : List (Fin 8)) :
    order.foldl (visitBundle budget) w = w :=
  List.foldl_fixed' (f := visitBundle budget) (fun _ => if_pos (by simpa using h)) order

end

/-! ## The grants of a line (R142 to R146) -/

/-- The arbiter `w` has granted one packet to each bundle of `js`, in this order, from `room` free words, and has left the other bundles
as they were in `old`. -/
structure GrantsTo (old : Vector OutBundle 8) (room : Nat) (js : List (Fin 8)) (w : Arbiter) : Prop where
  count   : w.packets.length = js.length
  granted : w.granted = js.length
  last    : w.last = js.getLast?
  fits    : packetWords w.packets ≤ room
  free    : w.free = room - packetWords w.packets
  turns   : ∀ (k : Nat) (j : Fin 8) (p : List Word), js[k]? = some j → w.packets[k]? = some p →
    TurnGranted j (room - packetWords (w.packets.take k)) old[j] w.bundles[j] p
  others  : ∀ j : Fin 8, j ∉ js → w.bundles[j] = old[j]

/-- The bundles of an order that request a packet (R141). -/
def requesting (old : Vector OutBundle 8) (order : List (Fin 8)) : List (Fin 8) := order.filter fun j => Requests old[j]

/-- Where an arbitration stands with the turns `rest` not taken: it went through the order, or the budget is used up, or nothing could be
offered to the requesting bundle whose turn it was (R146). -/
def ArbitrationEndsAt (old : Vector OutBundle 8) (budget : Nat) (rest : List (Fin 8)) (w : Arbiter) : Prop :=
  match rest with
  | [] => w.ended = false
  | j :: _ => budget ≤ w.granted ∨ w.ended = true ∧ Requests old[j] ∧ NothingFits old[j] w.free

section
variable {old : Vector OutBundle 8} {budget room : Nat} {js before rest : List (Fin 8)} {w : Arbiter} {j : Fin 8}

theorem mem_requesting : j ∈ requesting old js ↔ j ∈ js ∧ Requests old[j] := by
  simp [requesting]

theorem requesting_concat_requests (h : Requests old[j]) : requesting old (js ++ [j]) = requesting old js ++ [j] := by
  rw [requesting, List.filter_append, List.filter_singleton, decide_eq_true h]
  rfl

theorem requesting_concat_idle (h : ¬ Requests old[j]) : requesting old (js ++ [j]) = requesting old js := by
  rw [requesting, List.filter_append, List.filter_singleton, decide_eq_false h]
  exact List.append_nil _

theorem GrantsTo.nil (old : Vector OutBundle 8) (room : Nat) : GrantsTo old room [] ⟨old, [], room, 0, none, false⟩ where
  count := rfl
  granted := rfl
  last := rfl
  fits := Nat.zero_le _
  free := rfl
  turns := nofun
  others _ _ := rfl

theorem GrantsTo.ended (h : GrantsTo old room js w) : GrantsTo old room js { w with ended := true } := { h with }

/-- One more packet granted, to a bundle that has none in the line. -/
theorem GrantsTo.place {b' : OutBundle} {p : List Word} (h : GrantsTo old room js w) (hj : j ∉ js)
    (ht : TurnGranted j w.free w.bundles[j] b' p) : GrantsTo old room (js ++ [j]) (placePacket w j p b') where
  count := by simp [placePacket, h.count]
  granted := by simp [placePacket, h.granted]
  last := by simp [placePacket]
  fits := by
    have hp := ht.fits
    have hfits := h.fits
    simp only [placePacket, packetWords_append, packetWords_cons, packetWords_nil]
    rw [h.free] at hp
    omega
  free := by
    simp only [placePacket, packetWords_append, packetWords_cons, packetWords_nil, h.free]
    omega
  turns k i q hi hq := by
    simp only [placePacket] at hq ⊢
    obtain hk | rfl : k < js.length ∨ k = js.length := by
      have hlt := (List.getElem?_eq_some_iff.1 hi).1
      rw [List.length_append, List.length_singleton] at hlt
      omega
    · have hkp : k < w.packets.length := h.count ▸ hk
      rw [List.getElem?_append_left hk] at hi
      rw [List.getElem?_append_left hkp] at hq
      have hij : i ≠ j := fun e => hj (e ▸ List.mem_of_getElem? hi)
      rw [List.take_append_of_le_length hkp.le, bankSet_other _ _ hij]
      exact h.turns k i q hi hq
    · obtain rfl : j = i := by simpa using hi
      rw [← h.count] at hq ⊢
      obtain rfl : p = q := by simpa using hq
      rw [List.take_left, ← h.free, ← h.others j hj]
      exact (bankSet_get_self w.bundles j b').symm ▸ ht
  others i hi := by
    obtain ⟨hi, hne⟩ := not_or.1 (mt List.mem_append.2 hi)
    exact (bankSet_other _ _ (by simpa using hne)).trans (h.others i hi)

/-- Every packet granted is whole and stands within the free words (R139, R144). -/
theorem GrantsTo.packet_fits {k : Nat} {p : List Word} (h : GrantsTo old room js w) (hp : w.packets[k]? = some p) :
    WholePacket p ∧ packetWords (w.packets.take k) + p.length ≤ room := by
  have hk : k < js.length := h.count ▸ (List.getElem?_eq_some_iff.1 hp).1
  obtain ⟨-, hwhole, hlen⟩ := h.turns k _ p (List.getElem?_eq_getElem hk) hp
  have hbefore := (packetWords_le_of_sublist (List.take_sublist k w.packets)).trans h.fits
  exact ⟨hwhole, by omega⟩

/-- The turns `order` taken after `before`: every requesting bundle is granted up to where the arbitration ends (R142, R146). -/
theorem foldl_visitBundle_grants (order : List (Fin 8)) (hg : GrantsTo old room (requesting old before) w)
    (hrun : w.ended = false) (hbudget : w.granted ≤ budget) (hnd : (before ++ order).Nodup) :
    ∃ served rest, before ++ order = served ++ rest ∧
      GrantsTo old room (requesting old served) (order.foldl (visitBundle budget) w) ∧
      (order.foldl (visitBundle budget) w).granted ≤ budget ∧
      ArbitrationEndsAt old budget rest (order.foldl (visitBundle budget) w) := by
  induction order generalizing before w with
  | nil => exact ⟨before, [], rfl, hg, hbudget, hrun⟩
  | cons j order ih =>
    obtain hused | hleft := le_or_gt budget w.granted
    · rw [foldl_visitBundle_ended (.inr hused)]
      exact ⟨before, j :: order, rfl, hg, hbudget, .inl hused⟩
    have hj : j ∉ requesting old before := fun hm =>
      List.disjoint_of_nodup_append hnd (mem_requesting.1 hm).1 List.mem_cons_self
    have hold : w.bundles[j] = old[j] := hg.others j hj
    rw [List.foldl_cons]
    obtain ⟨hreq, hv⟩ | ⟨hreq, hnone, hv⟩ | ⟨hreq, p, b', ht, hv⟩ := visitBundle_running (j := j) hrun hleft
    · rw [hold] at hreq
      rw [hv]
      rw [List.append_cons] at hnd ⊢
      exact ih (by rwa [requesting_concat_idle hreq]) hrun hbudget hnd
    · rw [hold] at hreq hnone
      rw [hv, foldl_visitBundle_ended (.inl rfl)]
      exact ⟨before, j :: order, rfl, hg.ended, hbudget, .inr ⟨rfl, hreq, hnone⟩⟩
    · rw [hold] at hreq
      rw [hv]
      rw [List.append_cons] at hnd ⊢
      exact ih (requesting_concat_requests hreq ▸ hg.place hj ht) hrun hleft hnd

end

/-- The arbitration of a line: the bundles served come first in the grant order, and those of them that request are granted a packet. -/
theorem arbitrate_grants {lane : Lane} {st : LaneSettings} {old : Vector OutBundle 8} {pointer : Fin 8} (hs : lane.settings = st)
    (hb : lane.outBundles = old) (hp : lane.pointer = pointer) (kept : List (List Word)) :
    ∃ served rest, grantOrder pointer = served ++ rest ∧
      GrantsTo old (64 - packetWords kept) (requesting old served) (arbitrate lane kept) ∧
      (arbitrate lane kept).granted ≤ st.budget ∧ ArbitrationEndsAt old st.budget rest (arbitrate lane kept) := by
  subst hs hb hp
  exact foldl_visitBundle_grants (before := []) _ (.nil _ _) rfl (Nat.zero_le _) (grantOrder_once _).1

/-! ## The grant order by places (R142) -/

theorem grantOrder_pairwise (p : Fin 8) : (grantOrder p).Pairwise fun i j => grantPlace p i < grantPlace p j := by
  revert p
  decide

theorem mem_turnsAfter_some {p i j : Fin 8} : j ∈ turnsAfter (grantOrder p) (some i) ↔ grantPlace p i < grantPlace p j := by
  revert p i j
  decide

/-- The turns after the last of an ascending list are those after each of its members. -/
theorem mem_turnsAfter_getLast? {p j : Fin 8} {js : List (Fin 8)}
    (h : js.Pairwise fun a b => grantPlace p a < grantPlace p b) :
    j ∈ turnsAfter (grantOrder p) js.getLast? ↔ ∀ g ∈ js, grantPlace p g < grantPlace p j := by
  cases js using List.reverseRecOn with
  | nil => exact iff_of_true ((grantOrder_once p).2 j) nofun
  | append_singleton is i =>
    obtain ⟨-, -, hlast⟩ := List.pairwise_append.1 h
    rw [List.getLast?_concat, mem_turnsAfter_some]
    refine ⟨fun hij g hg => ?_, fun hall => hall i List.mem_concat_self⟩
    obtain hg | hg := List.mem_append.1 hg
    · exact (hlast g hg i (List.mem_singleton_self i)).trans hij
    · rwa [List.mem_singleton.1 hg]

section
variable {old : Vector OutBundle 8} {budget room : Nat} {p : Fin 8} {served rest : List (Fin 8)} {w : Arbiter}
  (hsplit : grantOrder p = served ++ rest)
include hsplit

theorem requesting_served_pairwise :
    (requesting old served).Pairwise fun i j => grantPlace p i < grantPlace p j :=
  (List.pairwise_append.1 (hsplit ▸ grantOrder_pairwise p)).1.sublist List.filter_sublist

/-- A requesting bundle that is granted nothing has its turn among those not taken, after every grant. -/
theorem ungranted_in_rest {j : Fin 8} (hj : j ∉ requesting old served) (hreq : Requests old[j]) :
    j ∈ rest ∧ ∀ g ∈ requesting old served, grantPlace p g < grantPlace p j := by
  have hmem : j ∈ served ++ rest := hsplit ▸ (grantOrder_once p).2 j
  have hrest : j ∈ rest := (List.mem_append.1 hmem).resolve_left fun hs => hj (mem_requesting.2 ⟨hs, hreq⟩)
  obtain ⟨-, -, hlt⟩ := List.pairwise_append.1 (hsplit ▸ grantOrder_pairwise p)
  exact ⟨hrest, fun g hg => hlt g (mem_requesting.1 hg).1 j hrest⟩

theorem rest_not_granted {j : Fin 8} (hj : j ∈ rest) : j ∉ requesting old served := fun hm =>
  List.disjoint_of_nodup_append (hsplit ▸ (grantOrder_once p).1) (mem_requesting.1 hm).1 hj

variable (hg : GrantsTo old room (requesting old served) w) (hend : ArbitrationEndsAt old budget rest w)
include hg hend

/-- Why a requesting bundle is granted nothing (R146). -/
theorem ungranted_reason {j : Fin 8} (hj : j ∉ requesting old served) (hreq : Requests old[j]) :
    budget ≤ (requesting old served).length ∨
      ∃ j0 : Fin 8, j0 ∉ requesting old served ∧ Requests old[j0] ∧ grantPlace p j0 ≤ grantPlace p j ∧
        (∀ g ∈ requesting old served, grantPlace p g < grantPlace p j0) ∧
        NothingFits old[j0] (room - packetWords w.packets) := by
  obtain ⟨hrest, -⟩ := ungranted_in_rest hsplit hj hreq
  cases rest with
  | nil => cases hrest
  | cons j0 tl =>
    obtain hused | ⟨-, hreq0, hnone⟩ := hend
    · exact .inl (hg.granted ▸ hused)
    have hj0 := rest_not_granted (old := old) hsplit List.mem_cons_self
    have hle : grantPlace p j0 ≤ grantPlace p j := by
      obtain ⟨-, htl, -⟩ := List.pairwise_append.1 (hsplit ▸ grantOrder_pairwise p)
      obtain rfl | hm := List.mem_cons.1 hrest
      · exact le_rfl
      · exact ((List.pairwise_cons.1 htl).1 j hm).le
    exact .inr ⟨j0, hj0, hreq0, hle, (ungranted_in_rest hsplit hj0 hreq0).2, hg.free ▸ hnone⟩

/-- The turns a line has left: none unless it went through its grant order within the budget (R146; log 16). -/
theorem mem_turnsLeft {lane : Lane} (hbudget : lane.settings.budget = budget) (hp : lane.pointer = p) (j : Fin 8) :
    j ∈ turnsLeft lane w ↔ (requesting old served).length < budget ∧
      (∀ i : Fin 8, i ∉ requesting old served → ¬ Requests old[i]) ∧
      ∀ g ∈ requesting old served, grantPlace p g < grantPlace p j := by
  subst hbudget hp
  rw [← hg.granted]
  by_cases hstop : w.ended = true ∨ lane.settings.budget ≤ w.granted
  · have hnone : turnsLeft lane w = [] := if_pos (by simpa using hstop)
    rw [hnone]
    refine iff_of_false List.not_mem_nil ?_
    rintro ⟨hleft, hall, -⟩
    have hended : w.ended = true := hstop.resolve_right (Nat.not_le.2 hleft)
    cases rest with
    | nil => cases hended.symm.trans hend
    | cons j0 tl =>
      obtain hused | ⟨-, hreq0, -⟩ := hend
      · omega
      · exact hall j0 (rest_not_granted hsplit List.mem_cons_self) hreq0
  · have hturns : turnsLeft lane w = turnsAfter (grantOrder lane.pointer) w.last := if_neg (by simpa using hstop)
    rw [hturns, hg.last, mem_turnsAfter_getLast? (requesting_served_pairwise hsplit)]
    obtain ⟨hrun, hleft⟩ := not_or.1 hstop
    refine ⟨fun hj => ⟨Nat.not_le.1 hleft, fun i hi hreq => ?_, hj⟩, fun h => h.2.2⟩
    obtain ⟨hrest, -⟩ := ungranted_in_rest hsplit hi hreq
    cases rest with
    | nil => cases hrest
    | cons j0 tl => exact hend.elim hleft fun h => hrun h.1

end

/-! ## The lane at its transmit side (R116, R131, R147, R148) -/

theorem laneAtLine_outBundles (l : Lane) : (laneAtLine l).outBundles = l.outBundles := by
  rw [laneAtLine_eq]

/-- A change of mode or lowest bundle that comes into force sets the pointer (R148). -/
theorem laneAtLine_pointer (l : Lane) : (laneAtLine l).pointer =
    if (l.pendingSettings.getD l.settings).mode = l.settings.mode ∧
        (l.pendingSettings.getD l.settings).lowest = l.settings.lowest then l.pointer
      else (l.pendingSettings.getD l.settings).lowest := by
  rw [laneAtLine, becomePresent_pointer]
  cases h : l.pendingSettings with
  | none =>
    rw [bringSettings_none h]
    exact (if_pos ⟨rfl, rfl⟩).symm
  | some st =>
    rw [bringSettings_some h]
    rfl

/-- Reception leaves what the transmit side works with. -/
theorem receiveLine_transmitSide (n : Fin 8) (lane : Lane) (sources : Vector Source 192) (words : List Word) :
    (receiveLine n lane sources words).lane.settings = lane.settings ∧
      (receiveLine n lane sources words).lane.outBundles = lane.outBundles ∧
      (receiveLine n lane sources words).lane.pointer = lane.pointer := by
  obtain ⟨w, htaken, -, hlane⟩ := receiveLine_taken n lane sources words
  rw [hlane, htaken.frame]
  exact ⟨rfl, rfl, rfl⟩

/-- The output line of an event is rebuilt from the lane with its settings in force, and from the packets kept of the input line. -/
theorem lineEvent_transmits (n : Fin 8) (line : Nat) (words : List Word) (s : State) : ∃ (lane : Lane) (list : List Received),
    (lineEvent n line words s).lanes[n] = transmitLine lane line list ∧
      lane.settings = (laneAtLine s.lanes[n]).settings ∧ lane.outBundles = s.lanes[n].outBundles ∧
      lane.pointer = (laneAtLine s.lanes[n]).pointer ∧
      keptPackets lane list = (parseLine (words.take 64)).1.filter
        (keepsPacket (laneAtLine s.lanes[n]).settings.keepMask s.lanes[n].outBundles) := by
  obtain ⟨hsettings, hbundles, hpointer⟩ := receiveLine_transmitSide n (laneAtLine s.lanes[n]) s.monitor.sources words
  rw [laneAtLine_outBundles] at hbundles
  refine ⟨_, _, lineEvent_lane_self n line words s, hsettings, hbundles, hpointer, ?_⟩
  rw [keptPackets_receiveLine, hsettings, hbundles]

/-- The pointer after a line, FIXED and ROTATE (R147). -/
theorem nextPointer_eq {lane : Lane} {st : LaneSettings} {pointer : Fin 8} (hs : lane.settings = st) (hp : lane.pointer = pointer)
    (last : Option (Fin 8)) : nextPointer lane last = match st.mode with
      | .fixed => st.lowest
      | .rotate => last.getD pointer := by
  subst hs hp
  rfl

/-! ## The output line (R139) -/

/-- The words of an output line whose packets fit. -/
theorem lineWords_length {l : OutLine} (h : packetWords l.packets ≤ 64) : (lineWords l).length = 64 := by
  rw [packetWords_eq_length_flatten] at h
  rw [lineWords, List.length_append, List.length_replicate]
  exact Nat.add_sub_cancel' h

/-- The words that packets kept and packets granted leave free. -/
theorem free_words_eq (kept own : List (List Word)) :
    64 - packetWords kept - packetWords own = 64 - (kept ++ own).flatten.length := by
  rw [Nat.sub_sub, ← packetWords_append, packetWords_eq_length_flatten]

/-- Settles O50: the kept packets, the grants of the turns taken, and where and why the arbitration ends. -/
theorem outputLineObeysItsBounds : Obligations.OutputLineObeysItsBounds := by
  intro n line words s hl hr st old kept pointer
  obtain ⟨lane, list, hlane, hsettings, hbundles, hpointer, hkept⟩ := lineEvent_transmits n line words s
  rw [laneAtLine_settings] at hsettings hkept
  rw [laneAtLine_pointer] at hpointer
  replace hkept : keptPackets lane list = kept := hkept
  obtain ⟨served, rest, hsplit, hg, hbudget, hend⟩ := arbitrate_grants hsettings hbundles hpointer kept
  have hroom : packetWords kept ≤ 64 := packetWords_kept_le words _
  have hwords : packetWords (kept ++ (arbitrate lane kept).packets) ≤ 64 := by
    have hfits := hg.fits
    rw [packetWords_append]
    omega
  refine ⟨lineEvent n line words s, _, (arbitrate lane kept).packets, requesting old served,
    doneWith_inputLineEvent n words hr hl, by rw [hlane, transmitLine_outLine, hkept], rfl, rfl, lineWords_length hwords, rfl,
    hg.count, hg.granted ▸ hbudget, hg.granted, requesting_served_pairwise hsplit, fun k j p hj hp => ?_, fun k p hp => ?_,
    fun j hj hreq => ⟨(ungranted_in_rest hsplit hj hreq).2, ?_⟩, fun j hj => ?_,
    mem_turnsLeft hsplit hg hend (congrArg _ hsettings) hpointer, ?_⟩
  · rw [hlane, transmitLine_outBundles, hkept, ← free_words_eq]
    exact (hg.turns k j p hj hp).packet
  · obtain ⟨hwhole, hfits⟩ := hg.packet_fits hp
    refine ⟨hwhole, ?_⟩
    rw [← packetWords_eq_length_flatten, packetWords_append]
    omega
  · rw [← free_words_eq]
    exact ungranted_reason hsplit hg hend hj hreq
  · rw [hlane, transmitLine_outBundles, hkept]
    exact hg.others j hj
  · rw [hlane, transmitLine_pointer, hkept, hg.last]
    exact nextPointer_eq hsettings hpointer _

end Sys2Proof.Machine
end

section
/-!
The alert classes (R154, R156, R157, R179, R180): flags and masks of classes, the priority order of a pointer, and the eligible set.
-/
namespace Sys2Proof.Machine

/-! ## Flags and masks of classes -/

theorem classFlag_setClassFlag (f : ClassFlags) (c k : AlertClass) (b : Bool) :
    classFlag (setClassFlag f c b) k = if k = c then b else classFlag f k := by
  cases c <;> cases k <;> rfl

theorem anyClass_iff (f : ClassFlags) : anyClass f = true ↔ ∃ c, classFlag f c = true := by
  constructor
  · intro h
    simp only [anyClass, Bool.or_eq_true, or_assoc] at h
    obtain h | h | h | h := h
    · exact ⟨.source, h⟩
    · exact ⟨.route, h⟩
    · exact ⟨.lane, h⟩
    · exact ⟨.batch, h⟩
  · rintro ⟨c, h⟩
    cases c <;> simp_all [anyClass, classFlag]

theorem classFlag_eligibleSet (req : ClassFlags) (a : AlertController) (c : AlertClass) :
    classFlag (eligibleSet req a) c = eligible req a c := by
  cases c <;> rfl

theorem maskOf_lt_two_pow (members : List Bool) : maskOf members < 2 ^ members.length := by
  induction members with
  | nil => simp [maskOf]
  | cons b rest ih =>
    rw [maskOf, List.length_cons, Nat.pow_succ]
    split <;> omega

/-- Bits 4 to 7 of a class mask are 0 (R179). -/
theorem classMask_lt (f : ClassFlags) : (classMask f).toNat < 16 := by
  rw [classMask, oneByte, BitVec.toNat_ofNat]
  exact lt_of_le_of_lt (Nat.mod_le _ _) (maskOf_lt_two_pow [f.source, f.route, f.lane, f.batch])

/-- The bit of a class in a class mask is its flag (R179, R180). -/
theorem getLsbD_classMask (f : ClassFlags) (c : AlertClass) : (classMask f).getLsbD (classPlace c) = classFlag f c := by
  have hplace : classPlace c < 8 := by cases c <;> decide
  rw [classMask, getLsbD_oneByte_maskOf _ hplace]
  cases c <;> rfl

theorem alertClassCode_eq (c : AlertClass) : alertClassCode c = BitVec.ofNat 8 (classPlace c) := by
  cases c <;> rfl

theorem priorityModeCode_eq (m : PriorityMode) : priorityModeCode m = if m = .fixed then 0#8 else 1#8 := by
  cases m <;> rfl

/-! ## The priority order (R156) -/

theorem mem_priorityOrder (p c : AlertClass) : c ∈ priorityOrder p := by
  cases p <;> cases c <;> decide

theorem priorityOrder_pairwise (p : AlertClass) :
    (priorityOrder p).Pairwise fun c k => priorityPlace p c < priorityPlace p k := by
  cases p <;> decide

/-- The classes above a class in the priority order are those of a smaller place, the classes below it those of a greater one. -/
theorem priorityOrder_split (p c : AlertClass) : ∃ above below, priorityOrder p = above ++ c :: below ∧
    (∀ k ∈ above, priorityPlace p k < priorityPlace p c) ∧ ∀ k ∈ below, priorityPlace p c < priorityPlace p k := by
  obtain ⟨above, below, h⟩ := List.append_of_mem (mem_priorityOrder p c)
  have hp := priorityOrder_pairwise p
  rw [h, List.pairwise_append, List.pairwise_cons] at hp
  obtain ⟨-, ⟨hbelow, -⟩, habove⟩ := hp
  exact ⟨above, below, h, fun k hk => habove k hk c List.mem_cons_self, hbelow⟩

/-- The classes of equal or higher priority are those of a place that is not greater (R157). -/
theorem mem_atOrAbove {p c k : AlertClass} : k ∈ atOrAbove p c ↔ priorityPlace p k ≤ priorityPlace p c := by
  obtain ⟨above, below, h, habove, hbelow⟩ := priorityOrder_split p c
  have hne : ∀ j ∈ above, decide (j ≠ c) = true := fun j hj =>
    decide_eq_true fun e => (habove j hj).ne (congrArg (priorityPlace p) e)
  have hwhole : atOrAbove p c = above ++ [c] := by
    rw [atOrAbove, h, List.takeWhile_append_of_pos hne, List.takeWhile_cons_of_neg (by simp), List.append_nil]
  have hk : k ∈ above ++ c :: below := h ▸ mem_priorityOrder p k
  rw [hwhole, List.mem_append, List.mem_singleton]
  constructor
  · rintro (hk | rfl)
    · exact (habove k hk).le
    · exact le_rfl
  · intro hle
    obtain hk | hk := List.mem_append.1 hk
    · exact .inl hk
    · obtain rfl | hk := List.mem_cons.1 hk
      · exact .inr rfl
      · exact absurd (hbelow k hk) hle.not_gt

/-! ## The eligible set (R157) -/

theorem eligible_iff (req : ClassFlags) (a : AlertController) (c : AlertClass) : eligible req a c = true ↔
    classFlag req c = true ∧ classFlag a.masked c = false ∧
      ∀ k, priorityPlace a.pointer k ≤ priorityPlace a.pointer c → classFlag a.inService k = false := by
  simp only [eligible, Bool.and_eq_true, Bool.not_eq_true', List.any_eq_false, mem_atOrAbove, Bool.not_eq_true, and_assoc]

/-- A class at or below one in service is not eligible. -/
theorem not_eligible_of_inService {req : ClassFlags} {a : AlertController} {c k : AlertClass}
    (h : classFlag a.inService c = true) (hle : priorityPlace a.pointer c ≤ priorityPlace a.pointer k) :
    eligible req a k = false := by
  refine Bool.eq_false_iff.2 fun hk => ?_
  obtain ⟨-, -, hfree⟩ := (eligible_iff req a k).1 hk
  simp [hfree c hle] at h

theorem alertWaiting_iff (s : State) : alertWaiting s = true ↔ ∃ c, eligible (requests s) s.alert c = true := by
  simp only [alertWaiting, anyClass_iff, eligibleNow, classFlag_eligibleSet]

/-- With no class eligible there is no highest one. -/
theorem highestEligible_none {s : State} (h : ∀ c, eligible (requests s) s.alert c = false) : highestEligible s = none :=
  List.find?_eq_none.2 fun c _ => by simp [h c]

/-- The eligible class of the smallest place is the highest one (R157). -/
theorem highestEligible_some {s : State} {c : AlertClass} (hc : eligible (requests s) s.alert c = true)
    (hmin : ∀ k, eligible (requests s) s.alert k = true → priorityPlace s.alert.pointer c ≤ priorityPlace s.alert.pointer k) :
    highestEligible s = some c := by
  obtain ⟨above, below, h, habove, -⟩ := priorityOrder_split s.alert.pointer c
  refine List.find?_eq_some_iff_append.2 ⟨hc, above, below, h, fun k hk => ?_⟩
  rw [Bool.not_eq_true', Bool.eq_false_iff]
  exact fun he => (habove k hk).not_ge (hmin k he)

/-! ## The requests and the pins (R154, R158, R163) -/

theorem hasNotice_iff (n : Notices) : hasNotice n = true ↔ n ≠ ⟨false, false, false⟩ := by
  obtain ⟨a, b, c⟩ := n
  simp only [hasNotice, Bool.or_eq_true, ne_eq, Notices.mk.injEq]
  cases a <;> cases b <;> simp

theorem slotHasNotice_iff (sl : RecordSlot) :
    slotHasNotice sl = true ↔ ∃ r, sl.record = some r ∧ r.notices ≠ ⟨false, false, false⟩ := by
  unfold slotHasNotice
  split
  · next r hr => simp [hr, hasNotice_iff]
  · next hr => simp [hr]

theorem requests_route_iff (s : State) : (requests s).route = true ↔
    ∃ (i : Fin 160) (r : Record), s.route.slots[i].record = some r ∧ r.notices ≠ ⟨false, false, false⟩ := by
  simp only [requests, bankAny_iff, slotHasNotice_iff]

theorem requests_batch_iff (s : State) :
    (requests s).batch = true ↔ ∃ (i : Fin 4) (r : BatchResult), s.edit.slots[i] = .done r := by
  simp only [requests, bankAny_iff, isDone_iff]

theorem alertAsserted_level {s : State} (hr : s.rstLow = false) (hst : s.alert.style = .level) :
    alertAsserted s = alertWaiting s := by
  simp [alertAsserted, hr, hst]

theorem alertAsserted_pulse {s : State} (hr : s.rstLow = false) (hst : s.alert.style = .pulse) :
    alertAsserted s = s.alert.pulse.isSome := by
  simp [alertAsserted, hr, hst]

/-- ALERT is bit 4 of the flags byte (R178). -/
theorem getLsbD_four_flagsByte (s : State) : (flagsByte s).getLsbD 4 = alertWaiting s := by
  have hbit (b : Bool) (x : Byte) : (if b then x else 0#8).getLsbD 4 = (b && x.getLsbD 4) := by cases b <;> simp
  simp only [flagsByte, flagNibble, BitVec.getLsbD_or, hbit]
  simp

/-- Settles O56: the eligible set through the priority order, the four requests as tests of a bank, and the two outputs. -/
theorem levelPinFollowsTheEligibleSet : Obligations.LevelPinFollowsTheEligibleSet :=
  ⟨eligible_iff,
    fun s => ⟨bankAny_iff _ s.monitor.sources, requests_route_iff s, bankAny_iff _ s.lanes, requests_batch_iff s⟩,
    fun s => ⟨alertWaiting_iff s, alertAsserted_level, getLsbD_four_flagsByte s⟩⟩

end Sys2Proof.Machine
end

section
/-!
POLL_ALERT and ACK_ALERT (R157, R160, R161), and the image of the alert state (R183).
-/
namespace Sys2Proof.Machine

variable {s : State}

theorem pollAlert_none (h : ∀ c, eligible (requests s) s.alert c = false) :
    pollAlert s = (s, ⟨.none, 255#8 :: alertStateImage s⟩) := by
  rw [pollAlert, highestEligible_none h]

theorem pollAlert_some {c : AlertClass} (h : highestEligible s = some c) :
    pollAlert s = (setInService s c true, ⟨.ok, alertClassCode c :: alertStateImage (setInService s c true)⟩) := by
  rw [pollAlert, h]
  rfl

/-- A class byte is answered exactly for the place of its class (R180). -/
theorem decodeAlertClass_eq_some {b : Byte} {c : AlertClass} : decodeAlertClass b = some c ↔ b.toNat = classPlace c := by
  unfold decodeAlertClass
  split
  case h_5 h0 h1 h2 h3 => exact iff_of_false nofun fun h => by cases c <;> simp_all [classPlace]
  all_goals next h => rw [h]; cases c <;> decide

/-- A byte above 3 names no class (R180). -/
theorem decodeAlertClass_none {b : Byte} (h : 4 ≤ b.toNat) : decodeAlertClass b = none := by
  refine Option.eq_none_iff_forall_ne_some.2 fun c hc => ?_
  have hplace : classPlace c < 4 := by cases c <;> decide
  have hb := decodeAlertClass_eq_some.1 hc
  omega

theorem ackAlert_range {b : Byte} (h : 4 ≤ b.toNat) : ackAlert s b = (s, ⟨.range, []⟩) := by
  rw [ackAlert, decodeAlertClass_none h]
  rfl

section
variable {b : Byte} {c : AlertClass} (hb : b.toNat = classPlace c)
include hb

theorem ackAlert_badState (h : classFlag s.alert.inService c = false) : ackAlert s b = (s, ⟨.badState, []⟩) := by
  simp [ackAlert, decodeAlertClass_eq_some.2 hb, h, statusOnly]

theorem ackAlert_ok (h : classFlag s.alert.inService c = true) :
    ackAlert s b = (endService s c, ⟨.ok, alertStateImage (endService s c)⟩) := by
  simp [ackAlert, decodeAlertClass_eq_some.2 hb, h, okWith]

end

/-- The service ended: the flag of the class is cleared, and in ROTATE mode the class becomes the lowest (R156, R161). -/
theorem endService_eq (s : State) (c : AlertClass) : endService s c = { s with
    alert := { s.alert with
      inService := setClassFlag s.alert.inService c false
      pointer := if s.alert.mode = .rotate then c else s.alert.pointer } } := by
  unfold endService
  cases s.alert.mode <;> rfl

/-- Settles O54: the poll by whether a class is eligible, the end of a service by its checks, and the image mask by mask. -/
theorem pollAndAckAlertServeAClass : Obligations.PollAndAckAlertServeAClass := by
  refine ⟨fun s h => ⟨fun hnone => ?_, fun c hc hmin => ?_⟩,
    fun b s h => ⟨fun hb => ?_, fun c hb => ⟨fun hserve => ?_, fun hserve => ?_⟩⟩, alertClassCode_eq, fun s => ?_⟩
  · exact answeredWith_of_refused (exec_pollAlert s) h (pollAlert_none hnone)
  · have ht := takenWith_of_request (exec_pollAlert s) h
    rw [pollAlert_some (highestEligible_some hc hmin)] at ht
    have hflag k : classFlag (setClassFlag s.alert.inService c true) k = (classFlag s.alert.inService k || k == c) := by
      rw [classFlag_setClassFlag]
      split <;> simp_all
    exact ⟨_, hflag, ht, fun k hk => not_eligible_of_inService (c := c) ((hflag c).trans (by simp)) hk⟩
  · exact answeredWith_of_refused (exec_ackAlert b s) h (ackAlert_range hb)
  · exact answeredWith_of_refused (exec_ackAlert b s) h (ackAlert_badState hb hserve)
  · have ht := takenWith_of_request (exec_ackAlert b s) h
    simp only [ackAlert_ok hb hserve, endService_eq] at ht
    refine ⟨_, fun k => ?_, ht⟩
    rw [classFlag_setClassFlag]
    split <;> simp_all
  · refine ⟨classMask (requests s), classMask s.alert.masked, classMask s.alert.inService, classMask (eligibleNow s), ?_,
      classMask_lt _, classMask_lt _, classMask_lt _, classMask_lt _, fun c => ⟨getLsbD_classMask _ c, getLsbD_classMask _ c,
        getLsbD_classMask _ c, (getLsbD_classMask _ c).trans (classFlag_eligibleSet _ _ c)⟩⟩
    rw [alertStateImage, priorityModeCode_eq, alertClassCode_eq]

end Sys2Proof.Machine
end

section
/-!
SET_ALERT (R155, R156, R162): the codes of its fields, the settings replaced, and the bytes answered.
-/
namespace Sys2Proof.Machine

/-! ## The codes of the fields (R179, R180) -/

/-- A pin style is answered exactly for the code of one (R180). -/
theorem decodePinStyle_eq_some {b : Byte} {st : PinStyle} : decodePinStyle b = some st ↔
    b.toNat = 0 ∧ st = .level ∨ b.toNat = 1 ∧ st = .pulse := by
  unfold decodePinStyle
  split
  · next h => simp [h, eq_comm]
  · next h => simp [h, eq_comm]
  · next h0 h1 => exact iff_of_false nofun fun h => h.elim (h0 ·.1) (h1 ·.1)

theorem pinStyleCode_of_decodePinStyle {b : Byte} {st : PinStyle} (h : decodePinStyle b = some st) : pinStyleCode st = b := by
  refine BitVec.eq_of_toNat_eq ?_
  obtain ⟨hb, rfl⟩ | ⟨hb, rfl⟩ := decodePinStyle_eq_some.1 h <;> rw [hb] <;> rfl

theorem alertClassCode_of_place {b : Byte} {c : AlertClass} (h : b.toNat = classPlace c) : alertClassCode c = b := by
  rw [alertClassCode_eq, ← h, BitVec.ofNat_toNat, BitVec.setWidth_eq]

/-- The flags of the classes in the bits of a mask (R179). -/
def flagsOfMask (b : Byte) : ClassFlags := ⟨b.getLsbD 0, b.getLsbD 1, b.getLsbD 2, b.getLsbD 3⟩

theorem decodeClassMask_eq (b : Byte) : decodeClassMask b = if b.toNat < 16 then some (flagsOfMask b) else none := rfl

theorem classFlag_flagsOfMask (b : Byte) (c : AlertClass) : classFlag (flagsOfMask b) c = b.getLsbD (classPlace c) := by
  cases c <;> rfl

theorem classMask_flagsOfMask {b : Byte} (h : b.toNat < 16) : classMask (flagsOfMask b) = b := by
  refine BitVec.eq_of_getLsbD_eq fun i hi => ?_
  rw [classMask, getLsbD_oneByte_maskOf _ hi]
  match i with
  | 0 | 1 | 2 | 3 => rfl
  | i + 4 =>
    have hhigh : b.toNat < 2 ^ (i + 4) := lt_of_lt_of_le h (Nat.pow_le_pow_right Nat.two_pos (Nat.le_add_left 4 i))
    exact (Nat.testBit_lt_two_pow hhigh).symm

/-! ## The settings replaced (R162) -/

variable {masks mode lowest style width : Byte}

/-- One field out of range refuses the settings whole (R162). -/
theorem setAlert_range (s : State) (h : 16 ≤ masks.toNat ∨ 2 ≤ mode.toNat ∨ 4 ≤ lowest.toNat ∨ 2 ≤ style.toNat ∨
    (width.toNat ≠ 1 ∧ width.toNat ≠ 4 ∧ width.toNat ≠ 16)) :
    setAlert s masks mode lowest style width = (s, ⟨.range, []⟩) := by
  unfold setAlert
  split
  · next mk md lo st w hmk hmd hlo hst hw =>
    have hmasks : masks.toNat < 16 := by
      by_contra hn
      simp [decodeClassMask_eq, hn] at hmk
    have hmode := decodePriorityMode_eq_some.1 hmd
    have hlowest : ¬ 4 ≤ lowest.toNat := fun hn => by simp [decodeAlertClass_none hn] at hlo
    have hstyle := decodePinStyle_eq_some.1 hst
    have hwidth : width.toNat = 1 ∨ width.toNat = 4 ∨ width.toNat = 16 := by
      by_contra hn
      simp [decodeWidth, hn] at hw
    omega
  · rfl

theorem pulseAfterStyle_eq (old new : PinStyle) (pulse : Option Nat) :
    pulseAfterStyle old new pulse = if new = .pulse ∧ old = .pulse then pulse else none := by
  cases old <;> cases new <;> rfl

/-- Settings in range are replaced together; the settings are answered as they were sent, with the eligible set they leave (R162). -/
theorem setAlert_ok (s : State) {md : PriorityMode} {lo : AlertClass} {st : PinStyle} (hmasks : masks.toNat < 16)
    (hmode : decodePriorityMode mode = some md) (hlowest : lowest.toNat = classPlace lo)
    (hstyle : decodePinStyle style = some st) (hwidth : width.toNat = 1 ∨ width.toNat = 4 ∨ width.toNat = 16) :
    let t := putAlert s (flagsOfMask masks) md lo st width.toNat
    setAlert s masks mode lowest style width =
      (t, ⟨.ok, [masks, mode, lowest, style, width, classMask (eligibleNow t)]⟩) := by
  simp only [setAlert, decodeClassMask_eq, if_pos hmasks, hmode, decodeAlertClass_eq_some.2 hlowest, hstyle, decodeWidth,
    if_pos hwidth, okWith, alertSettingsImage, putAlert_alert, classMask_flagsOfMask hmasks,
    priorityModeCode_of_decodePriorityMode hmode, alertClassCode_of_place hlowest, pinStyleCode_of_decodePinStyle hstyle,
    oneByte_toNat]

/-- Settles O55: the settings refused by the first field out of range, else replaced. -/
theorem setAlertReplacesTheSettings : Obligations.SetAlertReplacesTheSettings := by
  refine fun masks mode lowest style width s h => ⟨fun hbad => ?_, fun md lo st hmasks hmode hlowest hstyle hwidth => ?_⟩
  · exact answeredWith_of_refused (exec_setAlert masks mode lowest style width s) h (setAlert_range s hbad)
  · have ht := takenWith_of_request (exec_setAlert masks mode lowest style width s) h
    simp only [setAlert_ok s hmasks (decodePriorityMode_eq_some.2 hmode) hlowest (decodePinStyle_eq_some.2 hstyle) hwidth,
      putAlert, pulseAfterStyle_eq] at ht
    exact ⟨_, _, classFlag_flagsOfMask masks, fun k => (getLsbD_classMask _ k).trans (classFlag_eligibleSet _ _ k),
      classMask_lt _, ht⟩

end Sys2Proof.Machine
end

section
/-!
The pulse of ALERT_N (R159, R162): what the work of a command leaves of it before the eligible set is judged anew, and PULSE_END.
-/
namespace Sys2Proof.Machine

variable {c : Instr} {s t : State}

/-! ## The work of a command before the eligible set is judged anew -/

/-- What the work of a command that ends in `w` makes of RESET_N and of the pulse: only a tick and its part PULSE_END count a pulse that
runs on, and a change of style leaves none (R159, R162). -/
structure PulseWorked (c : Instr) (s w : State) : Prop where
  rstLow   : w.rstLow = s.rstLow
  kept     : s.alert.style = .pulse → w.alert.style = .pulse → (∀ desk, c ≠ .sampleTick desk) → c ≠ .pulseEnd →
    w.alert.pulse = s.alert.pulse
  restyled : w.alert.style ≠ s.alert.style → w.alert.pulse = none

/-- RESET_N, the pin style and the pulse count are as before. -/
abbrev PulseLeft (s w : State) : Prop :=
  w.rstLow = s.rstLow ∧ w.alert.style = s.alert.style ∧ w.alert.pulse = s.alert.pulse

theorem PulseLeft.worked {w : State} (h : PulseLeft s w) (c : Instr) : PulseWorked c s w := by
  obtain ⟨hr, hstyle, hpulse⟩ := h
  exact ⟨hr, fun _ _ _ _ => hpulse, fun hne => absurd hstyle hne⟩

theorem pulseLeft_of_alert {w : State} (hr : w.rstLow = s.rstLow) (ha : w.alert = s.alert) : PulseLeft s w :=
  ⟨hr, congrArg _ ha, congrArg _ ha⟩

/-- The command ends in its work with the eligible set judged anew. -/
def Judged (c : Instr) (s t : State) : Prop := ∃ w, t = settle s w ∧ PulseWorked c s w

section
variable (hr : s.rstLow = false)
include hr

theorem judged_of_wellFormed {ok : Bool} {work : State → State} (arm : exec c s = takeWellFormed ok s work)
    (hw : PulseWorked c s (work s)) (h : exec c s = .next t) : Judged c s t := by
  rcases takeWellFormed_cases (arm.symm.trans h) with ⟨-, ⟨hl, -⟩ | ⟨-, ht⟩⟩
  · simp [hr] at hl
  · exact ⟨_, ht, hw⟩

theorem judged_of_event {work : State → State} (arm : exec c s = takeEvent s work) (hw : PulseWorked c s (work s))
    (h : exec c s = .next t) : Judged c s t :=
  judged_of_wellFormed hr (arm.trans (takeWellFormed_true s work).symm) hw h

/-- A request's block acts on the Alert Controller as it was, or the request is not taken and only the link has acted. -/
theorem judged_of_request {act : State → State × Response} (arm : exec c s = takeRequest c s act)
    (hact : ∀ s, PulseWorked c s (act s).1) (h : exec c s = .next t) : Judged c s t := by
  obtain ⟨l, k, ho⟩ := handOver_frame c s
  rcases takeRequest_cases (arm.symm.trans h) with ⟨hl, -⟩ | ⟨-, -, ht⟩ | ⟨-, -, ht⟩
  · simp [hr] at hl
  · exact ⟨_, ht, PulseLeft.worked (by rw [ho]; exact ⟨rfl, rfl, rfl⟩) c⟩
  · obtain ⟨hlow, hkept, hrestyled⟩ := hact (handOver c s)
    simp only [ho] at hlow hkept hrestyled ht
    exact ⟨_, ht, hlow, hkept, hrestyled⟩

theorem judged_of_read {answer : State → Response} (arm : exec c s = takeRead c s answer) (h : exec c s = .next t) :
    Judged c s t :=
  judged_of_request hr arm (fun _ => PulseLeft.worked ⟨rfl, rfl, rfl⟩ c) h

theorem judged_of_leaving_event {work : State → State} (arm : exec c s = takeEvent s work) (hw : PulseLeft s (work s))
    (h : exec c s = .next t) : Judged c s t :=
  judged_of_event hr arm (hw.worked c) h

theorem judged_of_leaving_wellFormed {ok : Bool} {work : State → State} (arm : exec c s = takeWellFormed ok s work)
    (hw : PulseLeft s (work s)) (h : exec c s = .next t) : Judged c s t :=
  judged_of_wellFormed hr arm (hw.worked c) h

theorem judged_of_leaving_request {act : State → State × Response} (arm : exec c s = takeRequest c s act)
    (hact : ∀ s, PulseLeft s (act s).1) (h : exec c s = .next t) : Judged c s t :=
  judged_of_request hr arm (fun s => (hact s).worked c) h

end

/-! ## The works, one by one -/

theorem requestTransaction_pulseLeft (bytes : List Byte) (s : State) : PulseLeft s (requestTransaction bytes s) := by
  obtain ⟨l, k, h⟩ := requestTransaction_frame bytes s
  rw [h]
  exact ⟨rfl, rfl, rfl⟩

theorem fetchTransaction_pulseLeft (clocked : Nat) (s : State) : PulseLeft s (fetchTransaction clocked s) := by
  obtain ⟨l, k, h⟩ := fetchTransaction_frame clocked s
  rw [h]
  exact ⟨rfl, rfl, rfl⟩

theorem voidTransaction_pulseLeft (bytes : List Byte) (s : State) : PulseLeft s (voidTransaction bytes s) := by
  obtain ⟨l, k, h⟩ := voidTransaction_frame bytes s
  rw [h]
  exact ⟨rfl, rfl, rfl⟩

theorem referencePulse_pulseLeft (s : State) : PulseLeft s (referencePulse s) := by
  rw [referencePulse, closeWindow_frame]
  exact ⟨rfl, rfl, rfl⟩

theorem enterQuiet_pulseLeft (n : Fin 192) (s : State) : PulseLeft s (enterQuiet n s) := by
  unfold enterQuiet
  dsimp only
  split <;> exact ⟨rfl, rfl, rfl⟩

theorem workOne_if_pulseLeft (cond : Bool) (n : Fin 192) (s : State) : PulseLeft s (if cond then workOne n s else s) := by
  split
  · exact pulseLeft_of_alert (workOne_rstLow n s) (workOne_alert n s)
  · exact ⟨rfl, rfl, rfl⟩

theorem restartLaneNumbered_pulseLeft (lane : Byte) (s : State) : PulseLeft s (restartLaneNumbered s lane).1 := by
  unfold restartLaneNumbered
  split
  · exact ⟨rfl, rfl, rfl⟩
  · exact pulseLeft_of_alert (restartLane_rstLow s _) (restartLane_alert s _)

theorem setDesk_pulseLeft (dir port : Byte) (on : Bool) (s : State) : PulseLeft s (setDesk s dir port on).1 := by
  unfold setDesk
  repeat' split
  all_goals exact ⟨rfl, rfl, rfl⟩

theorem pollAlert_pulseLeft (s : State) : PulseLeft s (pollAlert s).1 := by
  unfold pollAlert
  split <;> exact ⟨rfl, rfl, rfl⟩

theorem ackAlert_pulseLeft (cls : Byte) (s : State) : PulseLeft s (ackAlert s cls).1 := by
  unfold ackAlert
  repeat' split
  all_goals exact ⟨rfl, rfl, rfl⟩

/-- A change of style stops the pulse; settings replaced in PULSE style leave it running (R162). -/
theorem putAlert_pulseWorked (c : Instr) (s : State) (mk : ClassFlags) (md : PriorityMode) (lo : AlertClass) (st : PinStyle)
    (w : Nat) : PulseWorked c s (putAlert s mk md lo st w) where
  rstLow := putAlert_rstLow s mk md lo st w
  kept hs ht _ _ := by
    rw [putAlert_alert] at ht ⊢
    rw [pulseAfterStyle_eq, if_pos ⟨ht, hs⟩]
  restyled hne := by
    rw [putAlert_alert] at hne ⊢
    rw [pulseAfterStyle_eq, if_neg fun h => hne (h.1.trans h.2.symm)]

theorem setAlert_pulseWorked (c : Instr) (masks mode lowest style width : Byte) (s : State) :
    PulseWorked c s (setAlert s masks mode lowest style width).1 := by
  unfold setAlert
  split
  · exact putAlert_pulseWorked c s _ _ _ _ _
  · exact PulseLeft.worked ⟨rfl, rfl, rfl⟩ c

theorem pulseTick_style (a : AlertController) : (pulseTick a).style = a.style := by
  rw [pulseTick_eq]

theorem tick_pulseWorked (desk : List DeskArrival) (s : State) : PulseWorked (.sampleTick desk) s (tick desk s) :=
  ⟨tick_rstLow desk s, fun _ _ hne => absurd rfl (hne desk), fun hne => absurd (pulseTick_style s.alert) hne⟩

theorem pulseEnd_running {a : AlertController} (h : a.pulse = some 1) : pulseEnd a = { a with pulse := none } := by
  simp [pulseEnd, h, pulseTick]

/-- PULSE_END does nothing where the next tick does not end the pulse (log 3). -/
theorem pulseEnd_idle {a : AlertController} (h : a.pulse = none ∨ ∃ c, a.pulse = some c ∧ 2 ≤ c) : pulseEnd a = a := by
  unfold pulseEnd
  rcases h with h | ⟨c, h, hc⟩
  · rw [h]
  · rw [h]
    exact if_neg (by omega)

theorem pulseEnd_style (a : AlertController) : (pulseEnd a).style = a.style := by
  unfold pulseEnd
  repeat' split
  any_goals rfl
  exact pulseTick_style a

/-- Every command but DEVICE_RESET ends in its work with the eligible set judged anew (R157). -/
theorem exec_judged (hr : s.rstLow = false) (hc : ∀ b, c ≠ .deviceReset b) (h : exec c s = .next t) : Judged c s t := by
  have left : PulseLeft s s := ⟨rfl, rfl, rfl⟩
  cases c with
  | deviceReset b => exact absurd rfl (hc b)
  | resetRelease csLow =>
    obtain rfl := Host.Outcome.next.inj ((exec_resetRelease csLow s).symm.trans h)
    rw [hr]
    exact ⟨s, (settle_of_same rfl).symm, left.worked _⟩
  | sampleTick desk => exact judged_of_wellFormed hr (exec_sampleTick desk s) (tick_pulseWorked desk s) h
  | pulseEnd =>
    exact judged_of_event hr (exec_pulseEnd s)
      ⟨rfl, fun _ _ _ hne => absurd rfl hne, fun hne => absurd (pulseEnd_style s.alert) hne⟩ h
  | setAlert ms m lo st w =>
    exact judged_of_request hr (exec_setAlert ms m lo st w s) (setAlert_pulseWorked _ ms m lo st w) h
  | refFramePulse => exact judged_of_leaving_event hr (exec_refFramePulse s) (referencePulse_pulseLeft s) h
  | inputLineEvent n line ws => exact judged_of_leaving_wellFormed hr (exec_inputLineEvent n line ws s) left h
  | request bytes => exact judged_of_leaving_event hr (exec_request bytes s) (requestTransaction_pulseLeft bytes s) h
  | fetch clocked => exact judged_of_leaving_event hr (exec_fetch clocked s) (fetchTransaction_pulseLeft clocked s) h
  | voidTransaction bytes =>
    exact judged_of_leaving_wellFormed hr (exec_voidTransaction bytes s) (voidTransaction_pulseLeft bytes s) h
  | readRoute hd => exact judged_of_read hr (exec_readRoute hd s) h
  | findDest d => exact judged_of_read hr (exec_findDest d s) h
  | listSource src st => exact judged_of_read hr (exec_listSource src st s) h
  | readNotices st => exact judged_of_read hr (exec_readNotices st s) h
  | readMeters side first count => exact judged_of_read hr (exec_readMeters side first count s) h
  | readResult slot => exact judged_of_read hr (exec_readResult slot s) h
  | readSourceChanges st => exact judged_of_read hr (exec_readSourceChanges st s) h
  | status => exact judged_of_leaving_request hr (exec_status s) (fun _ => ⟨rfl, rfl, rfl⟩) h
  | clearClip hd => exact judged_of_leaving_request hr (exec_clearClip hd s) (fun _ => ⟨rfl, rfl, rfl⟩) h
  | ackNotices n es => exact judged_of_leaving_request hr (exec_ackNotices n es s) (fun _ => ⟨rfl, rfl, rfl⟩) h
  | setGuards mask => exact judged_of_leaving_request hr (exec_setGuards mask s) (fun _ => ⟨rfl, rfl, rfl⟩) h
  | clearAll force => exact judged_of_leaving_request hr (exec_clearAll force s) (fun _ => ⟨rfl, rfl, rfl⟩) h
  | openBatch => exact judged_of_leaving_request hr (exec_openBatch s) (fun _ => ⟨rfl, rfl, rfl⟩) h
  | addEdit slot f => exact judged_of_leaving_request hr (exec_addEdit slot f s) (fun _ => ⟨rfl, rfl, rfl⟩) h
  | armBatch slot ti fr mo => exact judged_of_leaving_request hr (exec_armBatch slot ti fr mo s) (fun _ => ⟨rfl, rfl, rfl⟩) h
  | releaseBatch slot => exact judged_of_leaving_request hr (exec_releaseBatch slot s) (fun _ => ⟨rfl, rfl, rfl⟩) h
  | cancelBatch slot => exact judged_of_leaving_request hr (exec_cancelBatch slot s) (fun _ => ⟨rfl, rfl, rfl⟩) h
  | readSource src clear => exact judged_of_leaving_request hr (exec_readSource src clear s) (fun _ => ⟨rfl, rfl, rfl⟩) h
  | setMonitor l q f le qe => exact judged_of_leaving_request hr (exec_setMonitor l q f le qe s) (fun _ => ⟨rfl, rfl, rfl⟩) h
  | setChangeEnables e => exact judged_of_leaving_request hr (exec_setChangeEnables e s) (fun _ => ⟨rfl, rfl, rfl⟩) h
  | ackSources n ss => exact judged_of_leaving_request hr (exec_ackSources n ss s) (fun _ => ⟨rfl, rfl, rfl⟩) h
  | readLane n clear => exact judged_of_leaving_request hr (exec_readLane n clear s) (fun _ => ⟨rfl, rfl, rfl⟩) h
  | setLane n sl k b m lo => exact judged_of_leaving_request hr (exec_setLane n sl k b m lo s) (fun _ => ⟨rfl, rfl, rfl⟩) h
  | ackLanes mask => exact judged_of_leaving_request hr (exec_ackLanes mask s) (fun _ => ⟨rfl, rfl, rfl⟩) h
  | restartLane n => exact judged_of_leaving_request hr (exec_restartLane n s) (restartLaneNumbered_pulseLeft n) h
  | setDesk dir port on => exact judged_of_leaving_request hr (exec_setDesk dir port on s) (setDesk_pulseLeft dir port on) h
  | pollAlert => exact judged_of_leaving_request hr (exec_pollAlert s) pollAlert_pulseLeft h
  | ackAlert cls => exact judged_of_leaving_request hr (exec_ackAlert cls s) (ackAlert_pulseLeft cls) h
  | clearAllExecute => exact judged_of_leaving_event hr (exec_clearAllExecute s) left h
  | batchApply => exact judged_of_leaving_event hr (exec_batchApply s) left h
  | failoverTrigger n kind => exact judged_of_leaving_event hr (exec_failoverTrigger n kind s) left h
  | rampEnd i => exact judged_of_leaving_event hr (exec_rampEnd i s) left h
  | retireRampEnd i => exact judged_of_leaving_event hr (exec_retireRampEnd i s) left h
  | sourceRunning n => exact judged_of_leaving_event hr (exec_sourceRunning n s) (workOne_if_pulseLeft _ n s) h
  | closeMarkTaken n => exact judged_of_leaving_event hr (exec_closeMarkTaken n s) (workOne_if_pulseLeft _ n s) h
  | lossTimerExpiry n => exact judged_of_leaving_event hr (exec_lossTimerExpiry n s) (workOne_if_pulseLeft _ n s) h
  | presenceTimeout n => exact judged_of_leaving_event hr (exec_presenceTimeout n s) left h
  | quietEntered n => exact judged_of_leaving_event hr (exec_quietEntered n s) (enterQuiet_pulseLeft n s) h
  | batchDue i => exact judged_of_leaving_event hr (exec_batchDue i s) left h
  | setLaneInForce n => exact judged_of_leaving_event hr (exec_setLaneInForce n s) left h
  | closePacketGrant n j => exact judged_of_leaving_event hr (exec_closePacketGrant n j s) left h
  | deskFrameInProgressCompleted fs =>
    exact judged_of_leaving_wellFormed hr (exec_deskFrameInProgressCompleted fs s) left h

/-! ## The pulse over every command -/

/-- The pulse count is no input of the alert indication. -/
@[simp] theorem alertWaiting_settle (s w : State) : alertWaiting (settle s w) = alertWaiting w := by
  unfold settle
  split <;> rfl

/-- The event that makes the eligible set non-empty loads the pulse count with the width (R159). -/
theorem settle_started {w : State} (hs : s.alert.style = .pulse) (hw : w.alert.style = .pulse) (h : alertWaiting s = false)
    (h' : alertWaiting w = true) : (settle s w).alert.pulse = some w.alert.width := by
  rw [settle_alert_pulse, if_pos ⟨hs, hw, h, h'⟩]

/-- Settles O57: a command is its work and the judgement after it, which starts a pulse or leaves the state of the work. -/
theorem pulseFollowsTheEligibleSet : Obligations.PulseFollowsTheEligibleSet := by
  refine ⟨fun i s t _ hr h hi => ?_, fun s hr => ⟨fun hrun => ?_, fun hidle => ?_⟩⟩
  · obtain ⟨w, rfl, hlow, hkept, hrestyled⟩ := exec_judged hr hi h
    rw [settle_alert_style, alertWaiting_settle, settle_alert_width]
    refine ⟨fun hs hw hempty hfull => ?_, fun hs hw hsame htick hend => ?_, fun hne => ?_⟩
    · have hload := settle_started hs hw hempty hfull
      refine ⟨hload, ?_⟩
      rw [alertAsserted_pulse ((settle_rstLow s w).trans (hlow.trans hr)) ((settle_alert_style s w).trans hw), hload]
      rfl
    · rw [settle_of_not_started hsame]
      exact hkept hs hw htick hend
    · rw [settle_alert_pulse, if_neg fun hstart => hne (hstart.2.1.trans hstart.1.symm)]
      exact hrestyled hne
  · have hdone := doneWith_of_event (exec_pulseEnd s) hr
    rw [DoneWith, pulseEnd_running hrun] at hdone
    exact hdone.trans (congrArg _ (settle_of_same rfl))
  · refine exec_eq_self_of_doneWith (doneWith_of_event (exec_pulseEnd s) hr) ?_
    rw [pulseEnd_idle hidle]

end Sys2Proof.Machine
end

section
/-!
The taking of a request by its block, all requests alike: the block leaves RESET_N, the queue and the link as they are, but for FRESH, and
its response fits the buffer (R166, R169).
-/
namespace Sys2Proof.Machine

variable {s : State}

/-! ## Responses that fit the buffer -/

theorem pageBytes_length_le {n k : Nat} {pick : Fin n → Option (List Byte)} (hk : ∀ i x, pick i = some x → x.length ≤ k)
    (st : Fin n) : (pageBytes (pageFrom pick st)).length ≤ 2 + 32 * k := by
  rw [pageBytes_pageFrom, pagePayload, List.length_append, List.length_flatMap]
  have hitem (y) (hy : y ∈ ((itemsFrom pick st).take 32).map fun x => x.2.length) : y ≤ k := by
    obtain ⟨x, hx, rfl⟩ := List.mem_map.1 hy
    obtain ⟨i, -, hi⟩ := List.mem_filterMap.1 (List.mem_of_mem_take hx)
    obtain ⟨a, ha, rfl⟩ := Option.map_eq_some_iff.1 hi
    exact hk i a ha
  have hsum := List.sum_le_card_nsmul _ k hitem
  rw [List.length_map, smul_eq_mul] at hsum
  have hcount : ((itemsFrom pick st).take 32).length * k ≤ 32 * k :=
    Nat.mul_le_mul_right k (List.length_take_le 32 _)
  simp only [List.length_cons, List.length_nil]
  omega

theorem handleRefusal_length (c : HandleCheck) : (handleRefusal c).payload.length = 0 := by
  cases c <;> rfl

theorem statusBlock_length (s : State) : (statusBlock s).length = 13 := by
  simp [statusBlock, guardBytes]

theorem recordImage_length (h : Handle) (r : Record) : (recordImage h r).length = 36 := by
  have hramp (o : Option Ramp) : (rampImage o).length = 11 := by cases o <;> rfl
  have hleg (o : Option Leg) : (optionalLegImage o).length = 7 := by cases o <;> rfl
  have hbackup (o : Option Backup) : (backupImage o).length = 3 := by cases o <;> rfl
  have hcurrent : (legImage r.current).length = 7 := rfl
  simp [recordImage, hramp, hleg, hbackup, hcurrent]

theorem readRoute_fits (rt : RouteTable) (h : Handle) : (readRoute rt h).payload.length ≤ 250 := by
  unfold readRoute
  split
  · simp [okWith, recordImage_length]
  · simp [handleRefusal_length]

theorem findDest_fits (rt : RouteTable) (d : Byte) : (findDest rt d).payload.length ≤ 250 := by
  unfold findDest
  repeat' split
  all_goals simp [okWith, statusOnly]

theorem listSource_fits (rt : RouteTable) (source start : Byte) : (listSource rt source start).payload.length ≤ 250 := by
  unfold listSource
  split
  · next src st _ _ =>
    refine (pageBytes_length_le (k := 2) (fun i x hx => ?_) st).trans (by decide)
    unfold listedHandle at hx
    repeat' split at hx
    all_goals cases hx
    rfl
  · exact Nat.zero_le _

theorem clearClip_fits (rt : RouteTable) (h : Handle) : (clearClip rt h).2.payload.length ≤ 250 := by
  unfold clearClip
  split
  · simp [okWith]
  · simp [handleRefusal_length]

theorem readNotices_fits (rt : RouteTable) (start : Byte) : (readNotices rt start).payload.length ≤ 250 := by
  unfold readNotices
  split
  · next st _ =>
    refine (pageBytes_length_le (k := 3) (fun i x hx => ?_) st).trans (by decide)
    unfold listedNotices at hx
    repeat' split at hx
    all_goals cases hx
    rfl
  · exact Nat.zero_le _

theorem ackNoticeList_length (rt : RouteTable) (entries : List NoticeAck) :
    (ackNoticeList rt entries).2.length = entries.length := by
  induction entries generalizing rt with
  | nil => rfl
  | cons a rest ih => simp [ackNoticeList, ih]

theorem ackNotices_fits (rt : RouteTable) {count : Byte} {entries : List NoticeAck} (h : wellFormedCount count entries = true) :
    (ackNotices rt count entries).2.payload.length ≤ 250 := by
  have hentries := Laws.RequestShape.length_of_wellFormedCount h
  unfold ackNotices
  split
  · simp only [okWith, ackNoticeList_length]
    omega
  · exact Nat.zero_le _

theorem setGuards_fits (rt : RouteTable) (mask : Word) : (setGuards rt mask).2.payload.length ≤ 250 := by
  unfold setGuards
  split <;> simp [okWith, statusOnly, guardBytes]

theorem readMeters_fits (s : State) (side first count : Byte) : (readMeters s side first count).payload.length ≤ 250 := by
  by_cases hrange : 2 ≤ side.toNat ∨ 192 ≤ first.toNat ∨ count.toNat = 0 ∨ 48 < count.toNat ∨ 192 < first.toNat + count.toNat
  · rw [readMeters_range s hrange]
    exact Nat.zero_le _
  · have hside : side = 0#8 ∨ side = 1#8 := by
      have hs : side.toNat < 2 := by omega
      bv_omega
    rw [readMeters_run s (by omega) (by omega) (by omega) hside]
    dsimp only
    rw [meterRun_length (by rw [metersOf_length]; omega)]
    omega

theorem openBatch_fits (es : EditStage) : (openBatch es).2.payload.length ≤ 250 := by
  unfold openBatch
  repeat' split
  all_goals simp [okWith, statusOnly]

theorem addEdit_fits (rt : RouteTable) (es : EditStage) (slot : Byte) (f : EditFields) :
    (addEdit rt es slot f).2.payload.length ≤ 250 := by
  unfold addEdit
  repeat' split
  all_goals simp [okWith, statusOnly]

theorem armBatch_fits (es : EditStage) (slot timing frames mode : Byte) :
    (armBatch es slot timing frames mode).2.payload.length ≤ 250 := by
  unfold armBatch
  repeat' split
  all_goals simp [okWith, statusOnly]

/-- A result has at most 16 entries of 5 bytes (R44, R182). -/
theorem readResult_fits {es : EditStage} (hok : EditOk es) (slot : Byte) : (readResult es slot).payload.length ≤ 250 := by
  unfold readResult
  split
  · exact Nat.zero_le _
  · next i _ =>
    split
    · next r hr =>
      have hslot := hok.slots i
      rw [hr] at hslot
      obtain ⟨-, hcount⟩ : 1 ≤ r.entries.length ∧ r.entries.length ≤ 16 := hslot
      simp only [okWith, resultImage_length]
      omega
    all_goals exact Nat.zero_le _

theorem releaseBatch_fits (es : EditStage) (slot : Byte) : (releaseBatch es slot).2.payload.length ≤ 250 := by
  unfold releaseBatch
  repeat' split
  all_goals exact Nat.zero_le _

theorem cancelBatch_fits (es : EditStage) (slot : Byte) : (cancelBatch es slot).2.payload.length ≤ 250 := by
  unfold cancelBatch
  repeat' split
  all_goals exact Nat.zero_le _

theorem readSource_fits (m : SourceMonitor) (source : Byte) (clear : Bool) :
    (readSource m source clear).2.payload.length ≤ 250 := by
  unfold readSource
  split <;> simp [okWith, statusOnly, sourceImage_eq, numberCoded]

theorem setMonitor_fits (m : SourceMonitor) (l q f le qe : Byte) : (setMonitor m l q f le qe).2.payload.length ≤ 250 := by
  unfold setMonitor
  split <;> simp [okWith, statusOnly, settingsBytes]

theorem readSourceChanges_fits (m : SourceMonitor) (start : Byte) : (readSourceChanges m start).payload.length ≤ 250 := by
  unfold readSourceChanges
  split
  · next st _ =>
    refine (pageBytes_length_le (k := 3) (fun i x hx => ?_) st).trans (by decide)
    unfold listedChange at hx
    split at hx
    all_goals cases hx
    rfl
  · exact Nat.zero_le _

theorem ackSources_fits (m : SourceMonitor) (count : Byte) (list : List Byte) :
    (ackSources m count list).2.payload.length ≤ 250 := by
  unfold ackSources
  split <;> exact Nat.zero_le _

theorem setDesk_fits (s : State) (dir port : Byte) (on : Bool) : (setDesk s dir port on).2.payload.length ≤ 250 := by
  unfold setDesk
  repeat' split
  all_goals simp [okWith, statusOnly]

theorem readLane_fits (lanes : Vector Lane 8) (lane : Byte) (clear : Bool) :
    (readLane lanes lane clear).2.payload.length ≤ 250 := by
  unfold readLane
  split <;> simp [okWith, statusOnly, laneImage_length]

theorem setLane_fits (lanes : Vector Lane 8) (lane : Byte) (line : Word) (keep budget mode lowest : Byte) :
    (setLane lanes lane line keep budget mode lowest).2.payload.length ≤ 250 := by
  unfold setLane
  split <;> simp [okWith, statusOnly, laneSettingsBytes, twoBytes]

theorem restartLaneNumbered_fits (s : State) (lane : Byte) : (restartLaneNumbered s lane).2.payload.length ≤ 250 := by
  unfold restartLaneNumbered
  split <;> exact Nat.zero_le _

theorem pollAlert_fits (s : State) : (pollAlert s).2.payload.length ≤ 250 := by
  unfold pollAlert
  split <;> simp [okWith, alertStateImage]

theorem ackAlert_fits (s : State) (cls : Byte) : (ackAlert s cls).2.payload.length ≤ 250 := by
  unfold ackAlert
  repeat' split
  all_goals simp [okWith, statusOnly, alertStateImage]

theorem setAlert_fits (s : State) (masks mode lowest style width : Byte) :
    (setAlert s masks mode lowest style width).2.payload.length ≤ 250 := by
  unfold setAlert
  split <;> simp [okWith, statusOnly, alertSettingsImage]

/-! ## What a block leaves alone -/

/-- RESET_N, the queue and the link are as before, but for FRESH (R173). -/
structure LinkKept (s t : State) : Prop where
  rstLow  : t.rstLow = s.rstLow
  pending : t.pending = s.pending
  link    : t.link = { s.link with fresh := t.link.fresh }

theorem LinkKept.of_link {t : State} (hr : t.rstLow = s.rstLow) (hp : t.pending = s.pending) (hl : t.link = s.link) : LinkKept s t :=
  ⟨hr, hp, by rw [hl]⟩

theorem setDesk_linkKept (dir port : Byte) (on : Bool) (s : State) : LinkKept s (setDesk s dir port on).1 := by
  unfold setDesk
  repeat' split
  all_goals exact .of_link rfl rfl rfl

theorem restartLaneNumbered_linkKept (lane : Byte) (s : State) : LinkKept s (restartLaneNumbered s lane).1 := by
  unfold restartLaneNumbered
  split
  · exact .of_link rfl rfl rfl
  · exact .of_link (restartLane_rstLow s _) (restartLane_pending s _) (restartLane_link s _)

theorem pollAlert_linkKept (s : State) : LinkKept s (pollAlert s).1 := by
  unfold pollAlert
  split <;> exact .of_link rfl rfl rfl

theorem ackAlert_linkKept (cls : Byte) (s : State) : LinkKept s (ackAlert s cls).1 := by
  unfold ackAlert
  repeat' split
  all_goals exact .of_link rfl rfl rfl

theorem setAlert_linkKept (masks mode lowest style width : Byte) (s : State) :
    LinkKept s (setAlert s masks mode lowest style width).1 := by
  unfold setAlert
  split <;> exact .of_link rfl rfl rfl

/-! ## Every request -/

/-- The block that owns the request takes it by `act` (R169). -/
structure TakenBy (i : Instr) (act : State → State × Response) : Prop where
  arm  : ∀ s, exec i s = takeRequest i s act
  kept : ∀ s, LinkKept s (act s).1
  fits : ∀ s, EditOk s.edit → wellFormed i = true → (act s).2.payload.length ≤ 250

/-- A request that only reads is taken by its answer. -/
theorem TakenBy.of_read {i : Instr} {answer : State → Response} (arm : ∀ s, exec i s = takeRead i s answer)
    (fits : ∀ s, EditOk s.edit → (answer s).payload.length ≤ 250) : TakenBy i fun s => (s, answer s) :=
  ⟨arm, fun _ => .of_link rfl rfl rfl, fun s hok _ => fits s hok⟩

/-- Every request is taken by some block (R169, R179). -/
theorem exists_takenBy {i : Instr} (h : isRequest i = true) : ∃ act, TakenBy i act := by
  cases i with
  | readRoute hd => exact ⟨_, .of_read (exec_readRoute hd) fun s _ => readRoute_fits s.route hd⟩
  | findDest d => exact ⟨_, .of_read (exec_findDest d) fun s _ => findDest_fits s.route d⟩
  | listSource src st => exact ⟨_, .of_read (exec_listSource src st) fun s _ => listSource_fits s.route src st⟩
  | readNotices st => exact ⟨_, .of_read (exec_readNotices st) fun s _ => readNotices_fits s.route st⟩
  | readMeters side n c => exact ⟨_, .of_read (exec_readMeters side n c) fun s _ => readMeters_fits s side n c⟩
  | readResult slot => exact ⟨_, .of_read (exec_readResult slot) fun s hok => readResult_fits hok slot⟩
  | readSourceChanges st => exact ⟨_, .of_read (exec_readSourceChanges st) fun s _ => readSourceChanges_fits s.monitor st⟩
  | status => exact ⟨_, exec_status, fun _ => ⟨rfl, rfl, rfl⟩, fun s _ _ => by simp [okWith, statusBlock_length]⟩
  | clearClip hd => exact ⟨_, exec_clearClip hd, fun _ => .of_link rfl rfl rfl, fun s _ _ => clearClip_fits s.route hd⟩
  | ackNotices n es => exact ⟨_, exec_ackNotices n es, fun _ => .of_link rfl rfl rfl, fun s _ hw => ackNotices_fits s.route hw⟩
  | setGuards m => exact ⟨_, exec_setGuards m, fun _ => .of_link rfl rfl rfl, fun s _ _ => setGuards_fits s.route m⟩
  | clearAll force => exact ⟨_, exec_clearAll force, fun _ => .of_link rfl rfl rfl, fun _ _ _ => Nat.zero_le _⟩
  | openBatch => exact ⟨_, exec_openBatch, fun _ => .of_link rfl rfl rfl, fun s _ _ => openBatch_fits s.edit⟩
  | addEdit slot f => exact ⟨_, exec_addEdit slot f, fun _ => .of_link rfl rfl rfl, fun s _ _ => addEdit_fits s.route s.edit slot f⟩
  | armBatch slot ti fr mo =>
    exact ⟨_, exec_armBatch slot ti fr mo, fun _ => .of_link rfl rfl rfl, fun s _ _ => armBatch_fits s.edit slot ti fr mo⟩
  | releaseBatch slot => exact ⟨_, exec_releaseBatch slot, fun _ => .of_link rfl rfl rfl, fun s _ _ => releaseBatch_fits s.edit slot⟩
  | cancelBatch slot => exact ⟨_, exec_cancelBatch slot, fun _ => .of_link rfl rfl rfl, fun s _ _ => cancelBatch_fits s.edit slot⟩
  | readSource n clear =>
    exact ⟨_, exec_readSource n clear, fun _ => .of_link rfl rfl rfl, fun s _ _ => readSource_fits s.monitor n clear⟩
  | setMonitor l q f le qe =>
    exact ⟨_, exec_setMonitor l q f le qe, fun _ => .of_link rfl rfl rfl, fun s _ _ => setMonitor_fits s.monitor l q f le qe⟩
  | setChangeEnables e => exact ⟨_, exec_setChangeEnables e, fun _ => .of_link rfl rfl rfl, fun s _ _ => by simp [okWith]⟩
  | ackSources n ss => exact ⟨_, exec_ackSources n ss, fun _ => .of_link rfl rfl rfl, fun s _ _ => ackSources_fits s.monitor n ss⟩
  | readLane n clear => exact ⟨_, exec_readLane n clear, fun _ => .of_link rfl rfl rfl, fun s _ _ => readLane_fits s.lanes n clear⟩
  | setLane n sl k b m lo =>
    exact ⟨_, exec_setLane n sl k b m lo, fun _ => .of_link rfl rfl rfl, fun s _ _ => setLane_fits s.lanes n sl k b m lo⟩
  | ackLanes mask => exact ⟨_, exec_ackLanes mask, fun _ => .of_link rfl rfl rfl, fun _ _ _ => by simp [okWith]⟩
  | setDesk dir port on => exact ⟨_, exec_setDesk dir port on, setDesk_linkKept dir port on, fun s _ _ => setDesk_fits s dir port on⟩
  | restartLane n => exact ⟨_, exec_restartLane n, restartLaneNumbered_linkKept n, fun s _ _ => restartLaneNumbered_fits s n⟩
  | pollAlert => exact ⟨_, exec_pollAlert, pollAlert_linkKept, fun s _ _ => pollAlert_fits s⟩
  | ackAlert cls => exact ⟨_, exec_ackAlert cls, ackAlert_linkKept cls, fun s _ _ => ackAlert_fits s cls⟩
  | setAlert ms m lo st w =>
    exact ⟨_, exec_setAlert ms m lo st w, setAlert_linkKept ms m lo st w, fun s _ _ => setAlert_fits s ms m lo st w⟩
  | _ => cases h

/-- A request handed over ends in its response, with RESET_N, the queue and the rest of the link as they were (R169). -/
theorem exec_handed {i : Instr} (hreq : isRequest i = true) (h : HandedOver i s) (hok : EditOk s.edit) (hw : wellFormed i = true) :
    ∃ (t : State) (r : Response), exec i s = .next t ∧ t.rstLow = false ∧ t.pending = s.pending ∧ r.payload.length ≤ 250 ∧
      t.link = { s.link with state := .ready r, fresh := t.link.fresh } := by
  obtain ⟨act, arm, kept, fits⟩ := exists_takenBy hreq
  obtain ⟨hr, hp, hl⟩ := kept s
  refine ⟨_, (act s).2, (arm s).trans (takeRequest_handed h act), ?_, ?_, fits s hok hw, ?_⟩
  · rw [settle_rstLow, respond_rstLow, hr, h.1]
  · rw [settle_pending, respond_pending, hp]
  · rw [settle_link]
    simp only [respond]
    rw [hl]

/-- Settles O10: the block's response stands in the buffer, and the flags and MISO are those of before. -/
theorem everyRequestIsAnswered : Obligations.EveryRequestIsAnswered := by
  intro i s hinv hreq h
  have hw : wellFormed i = true := by
    obtain ⟨-, hstate⟩ := hinv.link
    rw [h.2] at hstate
    exact hstate
  obtain ⟨t, r, ht, -, -, hfits, hlink⟩ := exec_handed hreq h hinv.edit hw
  have hready : t.link.state = .ready r := by rw [hlink]
  refine ⟨t, r, ht, hready, hfits, ?_, ?_, ?_, ?_⟩
  · rw [rdyAsserted, hready]
  all_goals rw [hlink]

end Sys2Proof.Machine
end

section
/-!
An SPI transaction while RESET_N is high, whole: what one taken and one held at the release make of the state (R165, R175). The void
transaction (R165) and the moments around a low level of RESET_N (R175, R176).
-/
namespace Sys2Proof.Machine

variable {s t : State}

/-! ## Transactions as events -/

theorem exec_request_high (h : s.rstLow = false) (bytes : List Byte) :
    exec (.request bytes) s = .next (requestTransaction bytes s) := by
  rw [exec_request, takeEvent_taken h, settle_requestTransaction]

theorem exec_fetch_high (h : s.rstLow = false) (n : Nat) : exec (.fetch n) s = .next (fetchTransaction n s) := by
  rw [exec_fetch, takeEvent_taken h, settle_fetchTransaction]

theorem exec_voidTransaction_high (h : s.rstLow = false) {bytes : List Byte} (hok : wellFormedVoid bytes = true) :
    exec (.voidTransaction bytes) s = .next (voidTransaction bytes s) := by
  rw [exec_voidTransaction, hok, takeWellFormed_true, takeEvent_taken h, settle_voidTransaction]

theorem voidTransaction_taken (h : s.link.csHeld = false) (bytes : List Byte) :
    voidTransaction bytes s = { s with link := { s.link with miso := voidBytes s bytes } } :=
  transaction_taken h _ _

/-- Settles O9: the void transactions by their first byte, and the transaction held at the release by its kind. -/
theorem voidAndHeldTransactionsChangeNothing : Obligations.VoidAndHeldTransactionsChangeNothing := by
  refine ⟨fun s hr hc => ?_, fun lead rest s h52 h46 hr hc => ?_, fun s hr hc => ⟨fun bytes => ?_, fun n => ?_, fun bytes hw => ?_⟩⟩
  · rw [exec_voidTransaction_high hr rfl, voidTransaction_taken hc]
    rfl
  · rw [exec_voidTransaction_high hr (by simp [wellFormedVoid, h52, h46]), voidTransaction_taken hc]
    rfl
  · exact (exec_request_high hr bytes).trans (congrArg _ (transaction_held hc _ _))
  · exact (exec_fetch_high hr n).trans (congrArg _ (transaction_held hc _ _))
  · exact (exec_voidTransaction_high hr hw).trans (congrArg _ (transaction_held hc _ _))

/-! ## RESET_N (R175, R176) -/

/-- A transaction whose work leaves the hold of CS_N as it is ends it, taken or not (R175). -/
theorem transaction_csHeld {n : Nat} {work : State → State} (hw : (work s).link.csHeld = s.link.csHeld) :
    (transaction n s work).link.csHeld = false := by
  cases hc : s.link.csHeld with
  | false => rw [transaction_taken hc, hw, hc]
  | true => rw [transaction_held hc, untakenTransaction_link_csHeld]

theorem judgeRequest_csHeld (l : Link) : (judgeRequest l).csHeld = l.csHeld := by
  unfold judgeRequest
  split
  · rfl
  · rfl
  · split <;> rfl

theorem requestTransaction_csHeld (bytes : List Byte) (s : State) : (requestTransaction bytes s).link.csHeld = false :=
  transaction_csHeld (judgeRequest_csHeld _)

theorem fetchTransaction_csHeld (n : Nat) (s : State) : (fetchTransaction n s).link.csHeld = false :=
  transaction_csHeld (by dsimp only; split <;> rfl)

theorem voidTransaction_csHeld (bytes : List Byte) (s : State) : (voidTransaction bytes s).link.csHeld = false :=
  transaction_csHeld rfl

theorem misoDrivenNow_iff (s : State) : misoDrivenNow s = true ↔ s.link.csHeld = true ∧ s.rstLow = false := by
  simp [misoDrivenNow, misoDriven]

/-- A transaction that is an event leaves MISO released, for it ends the hold of CS_N (R176). -/
theorem misoDrivenNow_of_event {i : Instr} {work : State → State} (arm : exec i s = takeEvent s work)
    (hw : (work s).link.csHeld = false) (h : exec i s = .next t) : misoDrivenNow t = false := by
  rw [← Bool.not_eq_true, misoDrivenNow_iff]
  rcases takeEvent_cases (arm.symm.trans h) with ⟨hr, rfl⟩ | ⟨-, rfl⟩
  · simp [hr]
  · simp [hw]

/-- Every command but RESET_N's own, with operands an environment can send, is one event (R157, R175). -/
theorem exec_eq_takeEvent {i : Instr} (hw : wellFormed i = true) (hd : ∀ b, i ≠ .deviceReset b) (hr : ∀ b, i ≠ .resetRelease b)
    (s : State) : ∃ work, exec i s = takeEvent s work := by
  have judged {ok : Bool} {work : State → State} (arm : exec i s = takeWellFormed ok s work) (hok : ok = true) :
      ∃ work, exec i s = takeEvent s work :=
    ⟨work, by rw [arm, hok, takeWellFormed_true]⟩
  have request (hreq : isRequest i = true) : ∃ work, exec i s = takeEvent s work := by
    obtain ⟨act, arm, -, -⟩ := exists_takenBy hreq
    exact ⟨_, arm s⟩
  cases i with
  | deviceReset b => exact absurd rfl (hd b)
  | resetRelease b => exact absurd rfl (hr b)
  | sampleTick desk => exact judged (exec_sampleTick desk s) hw
  | inputLineEvent n line words => exact judged (exec_inputLineEvent n line words s) hw
  | voidTransaction bytes => exact judged (exec_voidTransaction bytes s) hw
  | deskFrameInProgressCompleted frames => exact judged (exec_deskFrameInProgressCompleted frames s) hw
  | refFramePulse => exact ⟨_, exec_refFramePulse s⟩
  | request bytes => exact ⟨_, exec_request bytes s⟩
  | fetch n => exact ⟨_, exec_fetch n s⟩
  | clearAllExecute => exact ⟨_, exec_clearAllExecute s⟩
  | batchApply => exact ⟨_, exec_batchApply s⟩
  | failoverTrigger n kind => exact ⟨_, exec_failoverTrigger n kind s⟩
  | rampEnd k => exact ⟨_, exec_rampEnd k s⟩
  | retireRampEnd k => exact ⟨_, exec_retireRampEnd k s⟩
  | sourceRunning n => exact ⟨_, exec_sourceRunning n s⟩
  | closeMarkTaken n => exact ⟨_, exec_closeMarkTaken n s⟩
  | lossTimerExpiry n => exact ⟨_, exec_lossTimerExpiry n s⟩
  | presenceTimeout n => exact ⟨_, exec_presenceTimeout n s⟩
  | pulseEnd => exact ⟨_, exec_pulseEnd s⟩
  | quietEntered n => exact ⟨_, exec_quietEntered n s⟩
  | batchDue k => exact ⟨_, exec_batchDue k s⟩
  | setLaneInForce n => exact ⟨_, exec_setLaneInForce n s⟩
  | closePacketGrant n j => exact ⟨_, exec_closePacketGrant n j s⟩
  | _ => exact request rfl

/-- Settles O3: every command is an event, none is taken during the low level, and a transaction ends the hold of CS_N. -/
theorem nothingIsTakenDuringReset : Obligations.NothingIsTakenDuringReset := by
  refine ⟨fun i s hl hw hd hr => ?_, fun s hl hheld => ?_, fun csLow s => ?_, misoDrivenNow_iff, fun i s t hi h => ?_⟩
  · obtain ⟨work, arm⟩ := exec_eq_takeEvent hw hd hr s
    rw [arm, takeEvent_low hl]
  · rw [hheld hl]
    exact ⟨rfl, rfl, rfl⟩
  · simp [misoDriven]
  · rcases hi with ⟨bytes, rfl⟩ | ⟨n, rfl⟩ | ⟨bytes, rfl⟩
    · exact misoDrivenNow_of_event (exec_request bytes s) (requestTransaction_csHeld bytes s) h
    · exact misoDrivenNow_of_event (exec_fetch n s) (fetchTransaction_csHeld n s) h
    · obtain ⟨hok, -⟩ := takeWellFormed_cases h
      have arm : exec (.voidTransaction bytes) s = takeEvent s (voidTransaction bytes) := by
        rw [exec_voidTransaction, hok, takeWellFormed_true]
      exact misoDrivenNow_of_event arm (voidTransaction_csHeld bytes s) h

theorem shortReset_cases (s : State) :
    shortReset s = resetState { s with freeCount := s.freeCount + 1 } ∨ shortReset s = { s with freeCount := s.freeCount + 1 } := by
  unfold shortReset
  dsimp only
  split
  · exact .inl rfl
  · exact .inr rfl

/-- Settles O5: the two outcomes of a short low level, and the release by the level of RESET_N. -/
theorem shortResetAndRelease : Obligations.ShortResetAndRelease := by
  refine ⟨fun s => ⟨shortReset s, rfl, ?_⟩, fun s csLow hl => ?_, fun s csLow hh => ?_, fun s => ⟨resetState s, rfl, rfl⟩⟩
  · rcases shortReset_cases s with h | h
    · exact .inl (congrArg _ h.symm)
    · exact .inr h
  · rw [exec_resetRelease, hl]
    rfl
  · rw [exec_resetRelease, hh]
    rfl

end Sys2Proof.Machine
end

section
/-!
Requests as bytes: the judgement of an accepted request case by case (R168), and that the encoder's bytes are read back (R179, R182).
-/
namespace Sys2Proof

/-! ## The judgement of a code, a length and payload bytes -/

section
variable {code length : Byte} {p : List Byte} {i : Instr}

theorem decodeRequest_badCommand (h : code.toNat ∉ commandCodes) : decodeRequest code length p = .badCommand := by
  simp [decodeRequest, h]

/-- A length over 250 is BAD_LENGTH, whatever the payload (R167, R168). -/
theorem decodeRequest_tooLong (hc : code.toNat ∈ commandCodes) (hl : 250 < length.toNat) :
    decodeRequest code length p = .badLength := by
  simp [decodeRequest, hc, Config.linkPayload, hl]

/-- A payload the command does not accept is BAD_LENGTH, whatever the length byte. -/
theorem decodeRequest_notAccepted (hc : code.toNat ∈ commandCodes) (hp : decodePayload code.toNat p = none) :
    decodeRequest code length p = .badLength := by
  simp [decodeRequest, hc, hp]

theorem decodeRequest_command (hc : code.toNat ∈ commandCodes) (hl : length.toNat ≤ 250)
    (hp : decodePayload code.toNat p = some i) : decodeRequest code length p = .command i := by
  simp [decodeRequest, hc, hp, Config.linkPayload, hl]

end

/-! ## What the encoder writes -/

section
variable {i : Instr} {code : Byte} {p : List Byte}

theorem code_mem_commandCodes (he : encodeRequest i = some (code, p)) : code.toNat ∈ commandCodes := by
  cases i with
  | _ => cases he <;> decide

/-- A request's payload fits the link (R166). -/
theorem payload_fits (hw : wellFormed i = true) (he : encodeRequest i = some (code, p)) : p.length ≤ 250 := by
  cases i with
  | ackNotices n es => exact (Laws.RequestShape.ackNotices n es code p hw he).2
  | ackSources n ss => exact (Laws.RequestShape.ackSources n ss code p hw he).2
  | addEdit slot f => exact (Laws.RequestShape.addEdit slot f code p hw he).2
  | _ => cases he <;> simp

/-- The set of enables bit by bit: source n is bit n mod 8 of byte n ÷ 8 (R179). -/
theorem getLsbD_enablesOf (p : List Byte) {n : Nat} (h : n < 192) :
    (enablesOf p).getLsbD n = (p.getD (n / 8) 0#8).getLsbD (n % 8) := by
  induction p generalizing n with
  | nil => simp [enablesOf]
  | cons b p ih =>
    have hcons : enablesOf (b :: p) = (enablesOf p <<< 8) ||| b.setWidth 192 := rfl
    rw [hcons, BitVec.getLsbD_or, BitVec.getLsbD_shiftLeft, BitVec.getLsbD_setWidth, decide_eq_true h, Bool.true_and, Bool.true_and]
    by_cases hn : n < 8
    · rw [decide_eq_true hn, Nat.div_eq_of_lt hn, Nat.mod_eq_of_lt hn]
      rfl
    · obtain ⟨m, rfl⟩ : ∃ m, n = m + 8 := ⟨n - 8, by omega⟩
      rw [decide_eq_false hn, Nat.add_sub_cancel, ih (by omega), Nat.add_div_right m (by decide), Nat.add_mod_right,
        BitVec.getLsbD_of_ge b _ (by omega)]
      simp

/-- The enables are read back from their 24 bytes. -/
theorem enablesOf_enableBytes (e : BitVec 192) : enablesOf (enableBytes e) = e := by
  refine BitVec.eq_of_getLsbD_eq fun n hn => ?_
  obtain ⟨b, hb, hbit⟩ := Machine.enableBytes_bit e ⟨n, hn⟩
  rw [getLsbD_enablesOf _ hn, List.getD_eq_getElem?_getD, hb]
  exact hbit

theorem decode_ackNotices {count : Byte} {es : List NoticeAck} (hw : wellFormedCount count es = true) :
    payloadAckNotices (count :: es.flatMap ackBytes) = some (.ackNotices count es) := by
  unfold wellFormedCount at hw
  split at hw
  · next hcount =>
    have hlen : es.length = count.toNat := by simpa using hw
    rw [← hlen] at hcount
    simp [payloadAckNotices, countHasLayout, ← hlen, hcount, decodeAcks_flatMap]
  · next hcount =>
    obtain rfl : es = [] := by simpa using hw
    simp [payloadAckNotices, countHasLayout, hcount]

theorem decode_ackSources {count : Byte} {ss : List Byte} (hw : wellFormedCount count ss = true) :
    payloadAckSources (count :: ss) = some (.ackSources count ss) := by
  unfold wellFormedCount at hw
  split at hw
  · next hcount =>
    have hlen : ss.length = count.toNat := by simpa using hw
    simp [payloadAckSources, countHasLayout, hcount, hlen]
  · next hcount =>
    obtain rfl : ss = [] := by simpa using hw
    simp [payloadAckSources, countHasLayout, hcount]

theorem decode_addEdit {slot : Byte} {f : EditFields} (hw : wellFormedEdit f = true) :
    payloadEdit (slot :: editBytes f) = some (.addEdit slot f) := by
  obtain ⟨kind, rest, hbytes, hfields⟩ := decodeEditFields_editBytes hw
  rw [hbytes, payloadEdit, hfields]
  rfl

/-- The payload of every request is read back (R179, R182). -/
theorem decodePayload_encode (hw : wellFormed i = true) (he : encodeRequest i = some (code, p)) :
    decodePayload code.toNat p = some i := by
  cases i with
  | readRoute | clearClip | setGuards | setLane | clearAll | readSource | readLane | setDesk | setChangeEnables =>
    cases he
    simp [decodePayload, payload1, payload2, payload3, payloadLane, payloadEnables, wordBytes, enablesOf_enableBytes]
  | ackNotices n es =>
    cases he
    exact decode_ackNotices hw
  | ackSources n ss =>
    cases he
    exact decode_ackSources hw
  | addEdit slot f =>
    cases he
    exact decode_addEdit hw
  | _ => cases he <;> rfl

/-- A length of up to 250 as the length byte carries it. -/
theorem toNat_ofNat_length {α : Type} {p : List α} (h : p.length ≤ 250) : (BitVec.ofNat 8 p.length).toNat = p.length := by
  rw [BitVec.toNat_ofNat, Nat.mod_eq_of_lt (by omega)]

theorem decodeRequest_encode (hw : wellFormed i = true) (he : encodeRequest i = some (code, p)) :
    decodeRequest code (BitVec.ofNat 8 p.length) p = .command i := by
  have hfits := payload_fits hw he
  exact decodeRequest_command (code_mem_commandCodes he) (by rw [toNat_ofNat_length hfits]; exact hfits)
    (decodePayload_encode hw he)

end

theorem legBytes_eq_legFields (l : RawLeg) : legBytes l = Machine.legFields l := by
  simp only [legBytes, Machine.legFields, Machine.wordBytes_eq_numberCoded]

theorem ackBytes_eq (a : NoticeAck) : ackBytes a = Machine.numberCoded a.handle.toNat ++ [a.mask] := by
  rw [ackBytes, Machine.wordBytes_eq_numberCoded]

theorem flagOf_eq_decide (b : Byte) : flagOf b = decide (b ≠ 0#8) := by
  simp [flagOf, bne, BEq.beq]

/-- Settles O6: every request read back, the bytes of each, and the flag bytes. -/
theorem decodeReadsBackEveryRequest : Obligations.DecodeReadsBackEveryRequest := by
  have word (c : Byte) (w : Word) : some (c, wordBytes w) = some (c, Machine.numberCoded w.toNat) := by
    rw [Machine.wordBytes_eq_numberCoded]
  refine ⟨fun i code p hw he => ⟨payload_fits hw he, decodeRequest_encode hw he⟩, ?_, ?_, ?_, ?_, ?_⟩
  · refine ⟨rfl, word _, fun _ => rfl, fun _ _ => rfl, word _, fun _ => rfl, fun count es => ?_, word _, fun _ => rfl,
      fun _ _ _ => rfl⟩
    simp only [encodeRequest, funext ackBytes_eq]
  · refine ⟨rfl, ?_, ?_, ?_, ?_, fun _ _ _ _ => rfl, fun _ => rfl, fun _ => rfl, fun _ => rfl⟩
    all_goals
      intros
      simp [encodeRequest, editBytes, legBytes_eq_legFields, Machine.wordBytes_eq_numberCoded]
  · exact ⟨fun _ _ => rfl, fun _ _ _ _ _ => rfl, fun e => ⟨_, rfl, enableBytes_length e, Machine.enableBytes_bit e⟩, fun _ => rfl,
      fun _ _ => rfl, fun _ _ _ => rfl⟩
  · refine ⟨fun _ _ => rfl, fun _ _ _ _ _ _ => ?_, fun _ => rfl, fun _ => rfl, rfl, fun _ => rfl, fun _ _ _ _ _ => rfl⟩
    simp only [encodeRequest, Machine.wordBytes_eq_numberCoded]
  · intro a b flag set
    have hset : flagOf flag = set := flagOf_eq_decide flag
    rw [← hset]
    exact ⟨rfl, rfl, rfl, rfl⟩

end Sys2Proof
end

section
/-!
The FETCH transaction: the frame on MISO and the flag bytes bit by bit (R170 to R172, R178).
-/
namespace Sys2Proof.Machine

variable {s : State}

/-! ## The frame -/

/-- The first `n` of some bytes, filled up to `n` with zeros, byte by byte. -/
theorem take_append_zeros (bytes : List Byte) (n : Nat) :
    bytes.take n ++ List.replicate (n - bytes.length) 0#8 = (List.range n).map fun k => bytes.getD k 0#8 := by
  refine List.ext_getElem (by simp; omega) fun k hk hk' => ?_
  rw [List.getElem_map, List.getElem_range, List.getElem_append]
  split
  · next h =>
    have hlen : k < bytes.length := by
      rw [List.length_take] at h
      omega
    rw [List.getElem_take, List.getD_eq_getElem _ _ hlen]
  · next h =>
    have hlen : bytes.length ≤ k := by
      rw [List.length_take] at h
      simp at hk'
      omega
    rw [List.getElem_replicate, List.getD_eq_default _ _ hlen]

theorem fetchBytes_frameOnMiso (s : State) (n : Nat) :
    linkStateByte s :: fetchBytes s n = frameOnMiso s (fetchedResponse s.link) n := by
  rw [fetchBytes, frameOnMiso, take_append_zeros]
  rfl

theorem fetchedResponse_ready {l : Link} {r : Response} (h : l.state = .ready r) : fetchedResponse l = r := by
  rw [fetchedResponse, h]

theorem fetchedResponse_nothing {l : Link} (h : ∀ r, l.state ≠ .ready r) : fetchedResponse l = ⟨.nothing, []⟩ := by
  unfold fetchedResponse
  split
  · next r hr => exact absurd hr (h r)
  · rfl
  · rfl

theorem endFetch_ready {l : Link} {r : Response} (h : l.state = .ready r) :
    endFetch l = { l with state := .idle, overrun := false, short := false } := by
  rw [endFetch, h]

theorem endFetch_nothing {l : Link} (h : ∀ r, l.state ≠ .ready r) : endFetch l = { l with overrun := false, short := false } := by
  obtain ⟨state, slot, fresh, overrun, short, csHeld, miso⟩ := l
  cases state with
  | ready r => exact absurd rfl (h r)
  | idle => rfl
  | processing i => rfl

/-! ## FETCH -/

section
variable (hr : s.rstLow = false) (hc : s.link.csHeld = false) {r : Response} (hs : fetchedResponse s.link = r) {n : Nat}
include hr hc hs

theorem exec_fetch_complete (hn : 3 + r.payload.length ≤ n) :
    exec (.fetch n) s = .next { s with link := endFetch { s.link with miso := frameOnMiso s r n } } := by
  rw [exec_fetch_high hr, fetchTransaction, transaction_taken hc, fetchBytes_frameOnMiso, fetchComplete, hs, decide_eq_true hn]
  rfl

/-- A fetch cut short changes nothing but MISO (R170). -/
theorem exec_fetch_cut (hn : n < 3 + r.payload.length) :
    exec (.fetch n) s = .next { s with link := { s.link with miso := frameOnMiso s r n } } := by
  rw [exec_fetch_high hr, fetchTransaction, transaction_taken hc, fetchBytes_frameOnMiso, fetchComplete, hs,
    decide_eq_false (not_le.2 hn)]
  rfl

end

/-- A complete fetch of the response in the buffer leaves the link IDLE (R172). -/
theorem exec_fetch_ready (hr : s.rstLow = false) (hc : s.link.csHeld = false) {r : Response} (hs : s.link.state = .ready r)
    {n : Nat} (hn : 3 + r.payload.length ≤ n) :
    exec (.fetch n) s =
      .next { s with link := { s.link with state := .idle, overrun := false, short := false, miso := frameOnMiso s r n } } := by
  rw [exec_fetch_complete hr hc (fetchedResponse_ready hs) hn, endFetch_ready (by exact hs)]

/-! ## The flag bytes (R171, R178) -/

theorem flagNibble_bits : ∀ fresh overrun short alert : Bool, let b := flagNibble fresh overrun short alert
    b.getLsbD 7 = fresh ∧ b.getLsbD 6 = overrun ∧ b.getLsbD 5 = short ∧ b.toNat % 16 = 0 := by
  decide

/-- The flags leave the low half of the byte to the link state code. -/
theorem flagNibble_or_code : ∀ fresh overrun short alert : Bool, let b := flagNibble fresh overrun short alert
    (b ||| 0#8).toNat = b.toNat + 0 ∧ (b ||| 1#8).toNat = b.toNat + 1 ∧ (b ||| 2#8).toNat = b.toNat + 2 := by
  decide

theorem linkStateByte_toNat (s : State) :
    (linkStateByte s).toNat = (flagsByte s).toNat + (linkStateCode s.link.state).toNat := by
  obtain ⟨hidle, hprocessing, hready⟩ := flagNibble_or_code s.link.fresh s.link.overrun s.link.short (alertWaiting s)
  unfold linkStateByte
  cases s.link.state with
  | idle => exact hidle
  | processing i => exact hprocessing
  | ready r => exact hready

/-- Settles O8: a fetch of the response or of NOTHING, complete or cut short, then the flag bytes and the status codes. -/
theorem fetchSendsAFrame : Obligations.FetchSendsAFrame := by
  refine ⟨fun n r s hr hc hs => ⟨exec_fetch_ready hr hc hs, exec_fetch_cut hr hc (fetchedResponse_ready hs)⟩,
    fun n s hr hc hs => ⟨fun hn => ?_, exec_fetch_cut hr hc (fetchedResponse_nothing hs)⟩, fun s => ?_, by decide⟩
  · rw [exec_fetch_complete hr hc (fetchedResponse_nothing hs) hn, endFetch_nothing (by exact hs)]
  · obtain ⟨hfresh, hoverrun, hshort, hlow⟩ := flagNibble_bits s.link.fresh s.link.overrun s.link.short (alertWaiting s)
    refine ⟨hfresh, hoverrun, hshort, ?_, hlow, ?_⟩
    · rw [getLsbD_four_flagsByte, alertWaiting_iff]
    · rw [linkStateByte_toNat]
      cases s.link.state <;> rfl

end Sys2Proof.Machine
end

section
/-!
The REQUEST transaction as it is judged at the rise of CS_N (R167, R168), the handing over of a whole request, and one exchange of request,
taking and fetch (R166 to R172).
-/
namespace Sys2Proof.Machine

variable {s : State}

/-! ## The judgement at the rise of CS_N -/

/-- A link that is not IDLE discards the request (R167). -/
theorem requestTransaction_busy (hc : s.link.csHeld = false) (hs : s.link.state ≠ .idle) (bytes : List Byte) :
    requestTransaction bytes s =
      { s with
        link := { s.link with
          overrun := true, slot := [], miso := linkStateByte s :: List.replicate bytes.length 0#8 } } := by
  rw [requestTransaction, transaction_taken hc, judgeRequest_busy (by exact hs)]

section
variable (h : LinkFree s) {bytes : List Byte}
include h

theorem slotAtRise_free (bytes : List Byte) : slotAtRise s.link bytes = storeRequest bytes := by
  obtain ⟨-, hidle, -⟩ := h
  rw [slotAtRise, hidle]

theorem requestTransaction_short (hshort : isShort (storeRequest bytes) = true) :
    requestTransaction bytes s =
      { s with
        link := { s.link with
          short := true, slot := [], miso := linkStateByte s :: List.replicate bytes.length 0#8 } } := by
  rw [requestTransaction, transaction_taken h.2.2, slotAtRise_free h, judgeRequest_idle (by exact h.2.1), if_pos hshort]

theorem requestTransaction_accepted (hwhole : isShort (storeRequest bytes) = false) :
    requestTransaction bytes s =
      { s with
        link := { s.link with
          slot := [], miso := linkStateByte s :: List.replicate bytes.length 0#8, state := accept (storeRequest bytes) } } := by
  rw [requestTransaction, transaction_taken h.2.2, slotAtRise_free h, judgeRequest_idle (by exact h.2.1),
    if_neg (by exact Bool.eq_false_iff.1 hwhole)]

end

theorem isShort_storeRequest_cut {bytes : List Byte}
    (h : bytes.length < 2 ∨ ∃ code length p, bytes = code :: length :: p ∧ length.toNat ≤ 250 ∧ p.length < length.toNat) :
    isShort (storeRequest bytes) = true := by
  rcases h with h | ⟨code, length, p, rfl, hl, hp⟩
  · match bytes, h with
    | [], _ => rfl
    | [code], _ => rfl
  · simp [storeRequest, isShort, Config.linkPayload, hl, hp]

section
variable {code length : Byte} {p : List Byte}

theorem isShort_storeRequest_whole (h : 250 < length.toNat ∨ length.toNat ≤ p.length) :
    isShort (storeRequest (code :: length :: p)) = false := by
  by_cases hl : length.toNat ≤ 250
  · have hp : length.toNat ≤ p.length := by omega
    simp [storeRequest, isShort, Config.linkPayload, hl, hp]
  · simp [storeRequest, isShort, Config.linkPayload, hl]

/-- Of a length over 250 no payload byte is stored, and none is judged (R167, R168). -/
theorem accept_storeRequest (code length : Byte) (p : List Byte) :
    accept (storeRequest (code :: length :: p)) = accept (code :: length :: p.take length.toNat) := by
  have hjudged : decodeRequest code length (if length.toNat ≤ Config.linkPayload then p.take length.toNat else []) =
      decodeRequest code length (p.take length.toNat) := by
    split
    · rfl
    · next hl =>
      have hlong : 250 < length.toNat := not_le.1 hl
      by_cases hc : code.toNat ∈ commandCodes
      · rw [decodeRequest_tooLong hc hlong, decodeRequest_tooLong hc hlong]
      · rw [decodeRequest_badCommand hc, decodeRequest_badCommand hc]
  rw [storeRequest, accept, accept, hjudged]

end

/-! ## A whole request -/

section
variable {i : Instr} {code : Byte} {p : List Byte} (he : encodeRequest i = some (code, p))
include he

/-- A whole request on a free link is handed over (R167 to R169). -/
theorem requestTransaction_handsOver (h : LinkFree s) (hw : wellFormed i = true) :
    requestTransaction (requestBytes code p) s =
      { s with
        link := { s.link with
          slot := [], miso := linkStateByte s :: List.replicate (requestBytes code p).length 0#8, state := .processing i } } := by
  have hfits := payload_fits hw he
  have hstored := storeRequest_requestBytes code hfits
  have haccept : accept (requestBytes code p) = .processing i := by
    rw [requestBytes, accept, decodeRequest_encode hw he]
  rw [requestTransaction_accepted h (by rw [hstored]; exact isShort_requestBytes code hfits), hstored, haccept]

theorem isRequest_of_encode : isRequest i = true := by
  rw [isRequest, he]
  rfl

theorem handOver_sends (hs : s.link.state ≠ .processing i) : handOver i s = requestTransaction (requestBytes code p) s := by
  rw [handOver, if_neg hs, he]

/-- A request row not yet handed over does, on a free link, what it does handed over (log 4). -/
theorem exec_eq_exec_handedOver (h : LinkFree s) (hw : wellFormed i = true) :
    exec i s = exec i (requestTransaction (requestBytes code p) s) := by
  obtain ⟨act, arm, -, -⟩ := exists_takenBy (isRequest_of_encode he)
  have hidle : s.link.state ≠ .processing i := by simp [h.2.1]
  have hsent := requestTransaction_handsOver he h hw
  have hstate : (requestTransaction (requestBytes code p) s).link.state = .processing i := by rw [hsent]
  have hlow : (requestTransaction (requestBytes code p) s).rstLow = false := by rw [hsent]; exact h.1
  rw [arm, arm, takeRequest_handed ⟨hlow, hstate⟩, takeRequest, takeEvent_taken h.1, handOver_sends he hidle]
  dsimp only
  rw [if_pos hstate, hsent]
  rfl

/-- On a link that is not IDLE the row's own transaction is discarded, and no block acts (log 4). -/
theorem exec_eq_exec_request (hr : s.rstLow = false) (hc : s.link.csHeld = false) (hidle : s.link.state ≠ .idle)
    (hs : s.link.state ≠ .processing i) : exec i s = exec (.request (requestBytes code p)) s := by
  obtain ⟨act, arm, -, -⟩ := exists_takenBy (isRequest_of_encode he)
  have hstate : (requestTransaction (requestBytes code p) s).link.state ≠ .processing i := by
    rw [requestTransaction_busy hc hidle]
    exact hs
  rw [arm, takeRequest, exec_request, takeEvent_taken hr, takeEvent_taken hr, handOver_sends he hs]
  dsimp only
  rw [if_neg hstate]

end

/-- Settles O12: the handing over, and the row's own transaction on a free and on a busy link. -/
theorem wholeRequestIsHandedOver : Obligations.WholeRequestIsHandedOver := by
  intro i code p s hw he
  refine ⟨fun h => ⟨_, exec_request_high h.1 _, ?_, ?_, ?_, exec_eq_exec_handedOver he h hw⟩, exec_eq_exec_request he⟩
  all_goals rw [requestTransaction_handsOver he h hw]
  exact ⟨h.1, rfl⟩

/-! ## One exchange -/

theorem step_cons {c : Instr} {rest : List Instr} (h : s.pending = c :: rest) : step s = exec c { s with pending := rest } := by
  rw [step, h]

theorem run_of_step {t : State} (h : step s = .next t) (k : Nat) : Host.Core.run core (k + 1) s = Host.Core.run core k t := by
  have hcore : core.step s = .next t := h
  simp only [Host.Core.run, hcore]

section
variable {i : Instr} {rest : List Instr}

/-- First step: the whole request is handed over. -/
theorem step_request {code : Byte} {p : List Byte} (he : encodeRequest i = some (code, p)) (h : LinkFree s)
    (hw : wellFormed i = true) (hq : s.pending = .request (requestBytes code p) :: rest) :
    ∃ t : State, step s = .next t ∧ HandedOver i t ∧ t.edit = s.edit ∧ t.pending = rest ∧ t.link.csHeld = false := by
  have hfree : LinkFree { s with pending := rest } := h
  refine ⟨_, (step_cons hq).trans (exec_request_high hfree.1 _), ?_⟩
  rw [requestTransaction_handsOver he hfree hw]
  exact ⟨⟨h.1, rfl⟩, rfl, rfl, h.2.2⟩

/-- Second step: the block answers. -/
theorem step_handed (hreq : isRequest i = true) (h : HandedOver i s) (hok : EditOk s.edit) (hw : wellFormed i = true)
    (hq : s.pending = i :: rest) :
    ∃ (t : State) (r : Response), step s = .next t ∧ t.rstLow = false ∧ t.pending = rest ∧ r.payload.length ≤ 250 ∧
      t.link.state = .ready r ∧ t.link.csHeld = s.link.csHeld := by
  have hhanded : HandedOver i { s with pending := rest } := h
  obtain ⟨t, r, ht, hlow, hpending, hfits, hlink⟩ := exec_handed hreq hhanded hok hw
  refine ⟨t, r, (step_cons hq).trans ht, hlow, hpending, hfits, ?_⟩
  rw [hlink]
  exact ⟨rfl, rfl⟩

/-- Third step: a fetch long enough sends the response, and the link is IDLE again. -/
theorem step_fetch {n : Nat} {r : Response} (hr : s.rstLow = false) (hc : s.link.csHeld = false) (hs : s.link.state = .ready r)
    (hn : 3 + r.payload.length ≤ n) (hq : s.pending = .fetch n :: rest) :
    step s = .next { s with
      pending := rest
      link := { s.link with state := .idle, overrun := false, short := false, miso := frameOnMiso s r n } } := by
  have hlow : { s with pending := rest }.rstLow = false := hr
  exact (step_cons hq).trans (exec_fetch_ready hlow hc hs hn)

end

/-- Settles O11: the request is handed over, its block answers, and the fetch sends the response and empties the buffer. -/
theorem oneExchangeReturnsTheLinkToIdle : Obligations.OneExchangeReturnsTheLinkToIdle := by
  intro i code p rest s hinv hfree hw he hq
  obtain ⟨t₁, hstep₁, hhanded, hedit, hq₁, hheld⟩ := step_request he hfree hw hq
  obtain ⟨u, r, hstep₂, hlow, hq₂, hfits, hready, hcs⟩ :=
    step_handed (isRequest_of_encode he) hhanded (hedit ▸ hinv.edit) hw hq₁
  have hstep₃ := step_fetch hlow (hcs.trans hheld) hready (n := 253) (by omega) hq₂
  refine ⟨u, _, r, ?_, ?_, hready, rfl⟩
  · rw [run_of_step hstep₁, run_of_step hstep₂]
    rfl
  · rw [run_of_step hstep₁, run_of_step hstep₂, run_of_step hstep₃]
    rfl

end Sys2Proof.Machine
end

section
/-!
The payloads the link refuses: codes that name no command, and the lengths each command does not accept (R168, R179, R182).
-/
namespace Sys2Proof

/-! ## Payloads of a fixed length -/

section
variable {p : List Byte}

theorem payload0_eq_none {i : Instr} (h : p.length ≠ 0) : payload0 i p = none := by
  unfold payload0
  split
  · exact absurd rfl h
  · rfl

theorem payload1_eq_none {f : Byte → Instr} (h : p.length ≠ 1) : payload1 f p = none := by
  unfold payload1
  split
  · exact absurd rfl h
  · rfl

theorem payload2_eq_none {f : Byte → Byte → Instr} (h : p.length ≠ 2) : payload2 f p = none := by
  unfold payload2
  split
  · exact absurd rfl h
  · rfl

theorem payload3_eq_none {f : Byte → Byte → Byte → Instr} (h : p.length ≠ 3) : payload3 f p = none := by
  unfold payload3
  split
  · exact absurd rfl h
  · rfl

theorem payload4_eq_none {f : Byte → Byte → Byte → Byte → Instr} (h : p.length ≠ 4) : payload4 f p = none := by
  unfold payload4
  split
  · exact absurd rfl h
  · rfl

theorem payload5_eq_none {f : Byte → Byte → Byte → Byte → Byte → Instr} (h : p.length ≠ 5) : payload5 f p = none := by
  unfold payload5
  split
  · exact absurd rfl h
  · rfl

theorem payloadLane_eq_none (h : p.length ≠ 7) : payloadLane p = none := by
  unfold payloadLane
  split
  · exact absurd rfl h
  · rfl

theorem payloadEnables_eq_none (h : p.length ≠ 24) : payloadEnables p = none := if_neg h

end

/-- The requests of this code all have payloads of one length (R179). -/
def FixedLength (code : Byte) (p : List Byte) : Prop :=
  ∀ j code' p', encodeRequest j = some (code', p') → code' = code → p'.length = p.length

/-- A code with payloads of two lengths is none of a fixed length. -/
theorem not_fixedLength {j k : Instr} {code : Byte} {p q q' : List Byte} (hj : encodeRequest j = some (code, q))
    (hk : encodeRequest k = some (code, q')) (hne : q.length ≠ q'.length) : ¬ FixedLength code p :=
  fun h => hne ((h j code q hj rfl).trans (h k code q' hk rfl).symm)

/-- A command of a fixed length accepts no other (R168, R179). -/
theorem decodePayload_eq_none {i : Instr} {code : Byte} {p q : List Byte} (he : encodeRequest i = some (code, p))
    (hfixed : FixedLength code p) (hq : q.length ≠ p.length) : decodePayload code.toNat q = none := by
  cases i with
  | status | openBatch | pollAlert =>
    cases he
    exact payload0_eq_none hq
  | findDest | readNotices | clearAll | readResult | releaseBatch | cancelBatch | readSourceChanges | restartLane | ackLanes
  | ackAlert =>
    cases he
    exact payload1_eq_none hq
  | readRoute | listSource | clearClip | setGuards | readSource | readLane =>
    cases he
    exact payload2_eq_none hq
  | readMeters | setDesk =>
    cases he
    exact payload3_eq_none hq
  | armBatch =>
    cases he
    exact payload4_eq_none hq
  | setMonitor | setAlert =>
    cases he
    exact payload5_eq_none hq
  | setLane =>
    cases he
    exact payloadLane_eq_none hq
  | setChangeEnables e =>
    cases he
    exact payloadEnables_eq_none fun h => hq (h.trans (enableBytes_length e).symm)
  | ackNotices =>
    cases he
    exact absurd hfixed (not_fixedLength (j := .ackNotices 0#8 []) (k := .ackNotices 1#8 [⟨0#16, 0#8⟩]) rfl rfl (by decide))
  | ackSources =>
    cases he
    exact absurd hfixed (not_fixedLength (j := .ackSources 0#8 []) (k := .ackSources 1#8 [0#8]) rfl rfl (by decide))
  | addEdit =>
    cases he
    exact absurd hfixed
      (not_fixedLength (j := .addEdit 0#8 (.unknown 0#8)) (k := .addEdit 0#8 (.revert 0#16)) rfl rfl (by decide))
  | _ => cases he

/-! ## ADD_EDIT (R168, R182) -/

/-- The lengths of the four kinds' fields (R182). -/
theorem decodeEditFields_length {kind : Byte} {p : List Byte} {f : EditFields} (h : decodeEditFields kind p = some f) :
    (kind = 1#8 → p.length = 12) ∧ (kind = 2#8 → p.length = 10) ∧ (kind = 3#8 → p.length = 3) ∧ (kind = 4#8 → p.length = 2) := by
  refine ⟨?_, ?_, ?_, ?_⟩
  all_goals
    rintro rfl
    simp only [decodeEditFields, BitVec.toNat_ofNat] at h
    split at h
    · rfl
    · cases h

/-- A kind byte that names no kind has no layout (R168). -/
theorem decodeEditFields_unknown {kind : Byte} (h1 : kind ≠ 1#8) (h2 : kind ≠ 2#8) (h3 : kind ≠ 3#8) (h4 : kind ≠ 4#8)
    (p : List Byte) : decodeEditFields kind p = some (.unknown kind) := by
  unfold decodeEditFields
  split
  · next h => exact absurd (BitVec.eq_of_toNat_eq h) h1
  · next h => exact absurd (BitVec.eq_of_toNat_eq h) h2
  · next h => exact absurd (BitVec.eq_of_toNat_eq h) h3
  · next h => exact absurd (BitVec.eq_of_toNat_eq h) h4
  · rfl

/-- A payload too short to hold the kind (R168). -/
theorem decodeRequest_editTooShort {length : Byte} {p : List Byte} (h : p.length < 2) :
    decodeRequest 0x21#8 length p = .badLength := by
  refine decodeRequest_notAccepted (by decide) ?_
  match p, h with
  | [], _ => rfl
  | [slot], _ => rfl

section
variable {length slot kind : Byte} {rest : List Byte}

theorem decodeRequest_editLength
    (h : kind = 1#8 ∧ rest.length ≠ 12 ∨ kind = 2#8 ∧ rest.length ≠ 10 ∨ kind = 3#8 ∧ rest.length ≠ 3 ∨
      kind = 4#8 ∧ rest.length ≠ 2) : decodeRequest 0x21#8 length (slot :: kind :: rest) = .badLength := by
  have hnone : decodeEditFields kind rest = none := Option.eq_none_iff_forall_ne_some.2 fun f hf => by
    obtain ⟨hcreate, hmodify, hretire, hrevert⟩ := decodeEditFields_length hf
    rcases h with ⟨hk, hl⟩ | ⟨hk, hl⟩ | ⟨hk, hl⟩ | ⟨hk, hl⟩
    · exact hl (hcreate hk)
    · exact hl (hmodify hk)
    · exact hl (hretire hk)
    · exact hl (hrevert hk)
  exact decodeRequest_notAccepted (by decide) (congrArg (Option.map (Instr.addEdit slot)) hnone)

theorem decodeRequest_editUnknown (h1 : kind ≠ 1#8) (h2 : kind ≠ 2#8) (h3 : kind ≠ 3#8) (h4 : kind ≠ 4#8)
    (hl : length.toNat ≤ 250) :
    decodeRequest 0x21#8 length (slot :: kind :: rest) = .command (.addEdit slot (.unknown kind)) :=
  decodeRequest_command (by decide) hl (congrArg (Option.map (Instr.addEdit slot)) (decodeEditFields_unknown h1 h2 h3 h4 rest))

end

/-! ## The counted lists (R168, R179) -/

theorem decodeAcks_length {n : Nat} {p : List Byte} {es : List NoticeAck} (h : decodeAcks n p = some es) : p.length = 3 * n := by
  induction n generalizing p es with
  | zero =>
    cases p with
    | nil => rfl
    | cons b p => cases h
  | succ n ih =>
    match p, h with
    | hi :: lo :: mask :: rest, h =>
      obtain ⟨es', hrest, -⟩ := Option.map_eq_some_iff.1 h
      simp only [List.length_cons, ih hrest]
      omega

section
variable {length count : Byte} {rest : List Byte}

theorem countHasLayout_iff : countHasLayout count = true ↔ 1 ≤ count.toNat ∧ count.toNat ≤ 32 :=
  decide_eq_true_iff

theorem decodeRequest_ackNoticesLength (h : countHasLayout count = true) (hl : rest.length ≠ 3 * count.toNat) :
    decodeRequest 0x15#8 length (count :: rest) = .badLength := by
  have hnone : decodeAcks count.toNat rest = none :=
    Option.eq_none_iff_forall_ne_some.2 fun es hes => hl (decodeAcks_length hes)
  refine decodeRequest_notAccepted (by decide) ?_
  change payloadAckNotices (count :: rest) = none
  rw [payloadAckNotices, if_pos h, hnone]
  rfl

theorem decodeRequest_ackSourcesLength (h : countHasLayout count = true) (hl : rest.length ≠ count.toNat) :
    decodeRequest 0x34#8 length (count :: rest) = .badLength := by
  refine decodeRequest_notAccepted (by decide) ?_
  change payloadAckSources (count :: rest) = none
  rw [payloadAckSources, if_pos h, if_neg hl]

/-- Of a count without a layout the length is not judged (R168). -/
theorem decodeRequest_ackUncounted (h : countHasLayout count = false) (hl : length.toNat ≤ 250) :
    decodeRequest 0x15#8 length (count :: rest) = .command (.ackNotices count []) ∧
      decodeRequest 0x34#8 length (count :: rest) = .command (.ackSources count []) := by
  refine ⟨decodeRequest_command (by decide) hl ?_, decodeRequest_command (by decide) hl ?_⟩
  · change payloadAckNotices (count :: rest) = _
    rw [payloadAckNotices, h]
    rfl
  · change payloadAckSources (count :: rest) = _
    rw [payloadAckSources, h]
    rfl

end

/-- Settles O7: the rise of CS_N on a busy and on a free link, the codes and lengths refused, and the payloads whose length a field
decides. -/
theorem requestIsJudgedAtTheRise : Obligations.RequestIsJudgedAtTheRise := by
  refine ⟨⟨fun bytes s hr hc hs => ?_, fun bytes s h hcut => ?_, fun code length p s h hwhole => ?_⟩,
    ⟨fun code length p h => decodeRequest_badCommand h,
      fun i code length p q he hl => decodeRequest_tooLong (code_mem_commandCodes he) hl,
      fun i code length p q he hfixed hq =>
        decodeRequest_notAccepted (code_mem_commandCodes he) (decodePayload_eq_none he hfixed hq)⟩,
    ⟨fun length p h => decodeRequest_editTooShort h,
      fun length slot kind rest => ⟨decodeRequest_editLength, decodeRequest_editUnknown⟩,
      fun length count rest => ⟨decodeRequest_notAccepted (by decide) rfl, decodeRequest_notAccepted (by decide) rfl,
        fun h1 h32 => ?_, fun h hl => ?_⟩⟩⟩
  · rw [Machine.exec_request_high hr, Machine.requestTransaction_busy hc hs]
  · rw [Machine.exec_request_high h.1, Machine.requestTransaction_short h (Machine.isShort_storeRequest_cut hcut)]
  · rw [Machine.exec_request_high h.1, Machine.requestTransaction_accepted h (Machine.isShort_storeRequest_whole hwhole),
      Machine.accept_storeRequest]
    rfl
  · have hcount := countHasLayout_iff.2 ⟨h1, h32⟩
    exact ⟨decodeRequest_ackNoticesLength hcount, decodeRequest_ackSourcesLength hcount⟩
  · exact decodeRequest_ackUncounted (by rw [Bool.eq_false_iff, Ne, countHasLayout_iff]; omega) hl

end Sys2Proof
end

section
/-!
STATUS (R173, R174, R183).
-/
namespace Sys2Proof.Machine

theorem freeSlotCount_eq (rt : RouteTable) :
    freeSlotCount rt = ((List.finRange 160).filter fun i => rt.slots[i].record = none).length := by
  rw [freeSlotCount, bankIndices, List.countP_eq_length_filter]
  refine congrArg List.length (List.filter_congr fun i _ => ?_)
  cases rt.slots[i].record <;> rfl

/-- The guards as two bytes, the bits of the ports that do not exist 0 (R179). -/
theorem guardBytes_eq (g : BitVec 12) : guardBytes g = numberCoded g.toNat := by
  rw [guardBytes, wordBytes_eq_numberCoded, BitVec.toNat_setWidth, Nat.mod_eq_of_lt (by omega)]

/-- The mask of the lanes that are PRESENT (R117, R183). -/
theorem getLsbD_presentMask (lanes : Vector Lane 8) (n : Fin 8) :
    (oneByte (maskOf (lanes.toList.map fun l => !isAbsent l))).getLsbD n.val = true ↔ lanes[n].presence ≠ .absent := by
  have hbit : (lanes.toList.map fun l => !isAbsent l).getD n.val false = !isAbsent lanes[n] := by simp
  rw [getLsbD_oneByte_maskOf _ n.isLt, hbit, isAbsent]
  cases lanes[n].presence <;> simp

/-- The status block in its parts (R174, R183). -/
theorem statusBlock_eq (s : State) : statusBlock s =
    [0x08#8, 0x16#8, 0x01#8, if s.link.fresh then 1#8 else 0#8,
      BitVec.ofNat 8 ((List.finRange 160).filter fun i => s.route.slots[i].record = none).length] ++
    s.edit.slots.toList.map batchSlotCode ++
    [clearAllCode s.route.clearAll, BitVec.ofNat 8 (s.route.guards.toNat / 256), BitVec.ofNat 8 s.route.guards.toNat,
      oneByte (maskOf (s.lanes.toList.map fun l => !isAbsent l))] := by
  rw [statusBlock, guardBytes_eq, freeSlotCount_eq, List.append_assoc, List.append_assoc]
  rfl

/-- Settles O13: the block takes FRESH as it stood, and the status block is read byte by byte. -/
theorem statusReadsEveryBlock : Obligations.StatusReadsEveryBlock := by
  intro s h
  refine ⟨oneByte (maskOf (s.lanes.toList.map fun l => !isAbsent l)), s.edit.slots.toList.map batchSlotCode,
    getLsbD_presentMask s.lanes, by simp, fun i => ?_, ?_⟩
  · have hcode : (s.edit.slots.toList.map batchSlotCode)[i.val]? = some (batchSlotCode s.edit.slots[i]) := by simp
    refine hcode.trans ?_
    cases s.edit.slots[i] <;> rfl
  · have htaken : TakenWith .status s { s with link := { s.link with fresh := false } } (okWith (statusBlock s)) :=
      takenWith_of_request (exec_status s) h
    refine htaken.trans (congrArg _ (Eq.trans (settle_of_same ?_) (congrArg (respond _) ?_)))
    · rw [alertWaiting_respond]
      rfl
    · rw [okWith, statusBlock_eq]
      rcases s.route.clearAll with _ | _ | _ <;> rfl

end Sys2Proof.Machine
end

section
/-!
The queue and the counter of free values, over every command (logs 2, 10, 20): a block draws no free value; a transaction that is not
taken and a short low level of RESET_N draw one (R175; logs 7, 8).
-/
namespace Sys2Proof.Machine

variable {c : Instr} {s t u : State}

/-! ## Drawing free values -/

/-- The queue is as before, and no free value has been drawn. -/
def DrawsNone (s t : State) : Prop := t.pending = s.pending ∧ t.freeCount = s.freeCount

/-- The queue is as before, and one free value at most has been drawn. -/
def DrawsAtMostOne (s t : State) : Prop :=
  t.pending = s.pending ∧ (t.freeCount = s.freeCount ∨ t.freeCount = s.freeCount + 1)

theorem DrawsNone.atMostOne (h : DrawsNone s t) : DrawsAtMostOne s t := by
  obtain ⟨hp, hk⟩ := h
  exact ⟨hp, .inl hk⟩

theorem DrawsAtMostOne.trans_none (h : DrawsAtMostOne s t) (h' : DrawsNone t u) : DrawsAtMostOne s u := by
  obtain ⟨hp, hk⟩ := h'
  rw [DrawsAtMostOne, hp, hk]
  exact h

theorem drawsAtMostOne_next (s : State) : DrawsAtMostOne s { s with freeCount := s.freeCount + 1 } := ⟨rfl, .inr rfl⟩

theorem settle_drawsNone (s t : State) : DrawsNone t (settle s t) := ⟨settle_pending s t, settle_freeCount s t⟩

theorem respond_drawsNone (t : State) (r : Response) : DrawsNone t (respond t r) := ⟨respond_pending t r, respond_freeCount t r⟩

theorem resetState_drawsNone (s : State) : DrawsNone s (resetState s) := ⟨resetState_pending s, resetState_freeCount s⟩

/-! ## Transactions and the short reset, which may draw one -/

/-- A transaction draws a free value where it is not taken (R175; log 8). -/
theorem transaction_drawsAtMostOne {work : State → State} (n : Nat) (hw : DrawsNone s (work s)) :
    DrawsAtMostOne s (transaction n s work) := by
  cases hheld : s.link.csHeld with
  | true =>
    rw [transaction_held hheld]
    exact ⟨untakenTransaction_pending n s, .inr (untakenTransaction_freeCount n s)⟩
  | false =>
    rw [transaction_taken hheld]
    exact hw.atMostOne

theorem requestTransaction_drawsAtMostOne (bytes : List Byte) (s : State) : DrawsAtMostOne s (requestTransaction bytes s) :=
  transaction_drawsAtMostOne _ ⟨rfl, rfl⟩

theorem fetchTransaction_drawsAtMostOne (clocked : Nat) (s : State) : DrawsAtMostOne s (fetchTransaction clocked s) :=
  transaction_drawsAtMostOne _ ⟨rfl, rfl⟩

theorem voidTransaction_drawsAtMostOne (bytes : List Byte) (s : State) : DrawsAtMostOne s (voidTransaction bytes s) :=
  transaction_drawsAtMostOne _ ⟨rfl, rfl⟩

/-- A request not yet handed over is sent in one transaction (log 4). -/
theorem handOver_drawsAtMostOne (i : Instr) (s : State) : DrawsAtMostOne s (handOver i s) := by
  unfold handOver
  split
  · exact ⟨rfl, .inl rfl⟩
  · split
    · exact requestTransaction_drawsAtMostOne _ s
    · exact ⟨rfl, .inl rfl⟩

/-- Whether a short low level resets the part is a free value (R175; log 7). -/
theorem shortReset_drawsAtMostOne (s : State) : DrawsAtMostOne s (shortReset s) := by
  rcases shortReset_cases s with h | h
  · rw [h]
    exact (drawsAtMostOne_next s).trans_none (resetState_drawsNone _)
  · rw [h]
    exact drawsAtMostOne_next s

/-! ## Works and blocks, which draw none -/

theorem referencePulse_drawsNone (s : State) : DrawsNone s (referencePulse s) := by
  rw [referencePulse, closeWindow_frame]
  exact ⟨rfl, rfl⟩

theorem enterQuiet_drawsNone (n : Fin 192) (s : State) : DrawsNone s (enterQuiet n s) := by
  unfold enterQuiet
  dsimp only
  split <;> exact ⟨rfl, rfl⟩

theorem workOne_if_drawsNone (cond : Bool) (n : Fin 192) (s : State) : DrawsNone s (if cond then workOne n s else s) := by
  split
  · exact ⟨workOne_pending n s, workOne_freeCount n s⟩
  · exact ⟨rfl, rfl⟩

theorem restartLaneNumbered_drawsNone (lane : Byte) (s : State) : DrawsNone s (restartLaneNumbered s lane).1 := by
  unfold restartLaneNumbered
  split
  · exact ⟨rfl, rfl⟩
  · exact ⟨restartLane_pending s _, restartLane_freeCount s _⟩

theorem setDesk_drawsNone (dir port : Byte) (on : Bool) (s : State) : DrawsNone s (setDesk s dir port on).1 := by
  unfold setDesk
  repeat' split
  all_goals exact ⟨rfl, rfl⟩

theorem pollAlert_drawsNone (s : State) : DrawsNone s (pollAlert s).1 := by
  unfold pollAlert
  split <;> exact ⟨rfl, rfl⟩

theorem ackAlert_drawsNone (cls : Byte) (s : State) : DrawsNone s (ackAlert s cls).1 := by
  unfold ackAlert
  repeat' split
  all_goals exact ⟨rfl, rfl⟩

theorem setAlert_drawsNone (masks mode lowest style width : Byte) (s : State) :
    DrawsNone s (setAlert s masks mode lowest style width).1 := by
  unfold setAlert
  split <;> exact ⟨rfl, rfl⟩

/-! ## The ways a command is taken -/

theorem drawsAtMostOne_of_wellFormed {ok : Bool} {work : State → State} (arm : exec c s = takeWellFormed ok s work)
    (hw : DrawsAtMostOne s (work s)) (h : exec c s = .next t) : DrawsAtMostOne s t := by
  rcases takeWellFormed_cases (arm.symm.trans h) with ⟨-, ⟨-, rfl⟩ | ⟨-, rfl⟩⟩
  · exact ⟨rfl, .inl rfl⟩
  · exact hw.trans_none (settle_drawsNone s _)

theorem drawsAtMostOne_of_event {work : State → State} (arm : exec c s = takeEvent s work)
    (hw : DrawsAtMostOne s (work s)) (h : exec c s = .next t) : DrawsAtMostOne s t :=
  drawsAtMostOne_of_wellFormed (arm.trans (takeWellFormed_true s work).symm) hw h

/-- A request draws what its handing over draws; its block draws none (R169). -/
theorem drawsAtMostOne_of_request {act : State → State × Response} (arm : exec c s = takeRequest c s act)
    (hact : ∀ s, DrawsNone s (act s).1) (h : exec c s = .next t) : DrawsAtMostOne s t := by
  have hover := handOver_drawsAtMostOne c s
  rcases takeRequest_cases (arm.symm.trans h) with ⟨-, rfl⟩ | ⟨-, -, rfl⟩ | ⟨-, -, rfl⟩
  · exact ⟨rfl, .inl rfl⟩
  · exact hover.trans_none (settle_drawsNone s _)
  · exact ((hover.trans_none (hact _)).trans_none (respond_drawsNone _ _)).trans_none (settle_drawsNone s _)

theorem drawsAtMostOne_of_read {answer : State → Response} (arm : exec c s = takeRead c s answer) (h : exec c s = .next t) :
    DrawsAtMostOne s t :=
  drawsAtMostOne_of_request arm (fun _ => ⟨rfl, rfl⟩) h

theorem drawsAtMostOne_of_leaving_wellFormed {ok : Bool} {work : State → State} (arm : exec c s = takeWellFormed ok s work)
    (hw : DrawsNone s (work s)) (h : exec c s = .next t) : DrawsAtMostOne s t :=
  drawsAtMostOne_of_wellFormed arm hw.atMostOne h

theorem drawsAtMostOne_of_leaving_event {work : State → State} (arm : exec c s = takeEvent s work)
    (hw : DrawsNone s (work s)) (h : exec c s = .next t) : DrawsAtMostOne s t :=
  drawsAtMostOne_of_event arm hw.atMostOne h

/-! ## Every command -/

theorem exec_drawsAtMostOne (h : exec c s = .next t) : DrawsAtMostOne s t := by
  cases c with
  | deviceReset recognised =>
    obtain rfl := Host.Outcome.next.inj ((exec_deviceReset recognised s).symm.trans h)
    cases recognised with
    | true => exact (resetState_drawsNone s).atMostOne
    | false => exact shortReset_drawsAtMostOne s
  | resetRelease csLow =>
    obtain rfl := Host.Outcome.next.inj ((exec_resetRelease csLow s).symm.trans h)
    split
    · exact ⟨releaseReset_pending csLow s, .inl (releaseReset_freeCount csLow s)⟩
    · exact ⟨rfl, .inl rfl⟩
  | request bytes => exact drawsAtMostOne_of_event (exec_request bytes s) (requestTransaction_drawsAtMostOne bytes s) h
  | fetch clocked => exact drawsAtMostOne_of_event (exec_fetch clocked s) (fetchTransaction_drawsAtMostOne clocked s) h
  | voidTransaction bytes =>
    exact drawsAtMostOne_of_wellFormed (exec_voidTransaction bytes s) (voidTransaction_drawsAtMostOne bytes s) h
  | readRoute => exact drawsAtMostOne_of_read (exec_readRoute ..) h
  | findDest => exact drawsAtMostOne_of_read (exec_findDest ..) h
  | listSource => exact drawsAtMostOne_of_read (exec_listSource ..) h
  | readNotices => exact drawsAtMostOne_of_read (exec_readNotices ..) h
  | readMeters => exact drawsAtMostOne_of_read (exec_readMeters ..) h
  | readResult => exact drawsAtMostOne_of_read (exec_readResult ..) h
  | readSourceChanges => exact drawsAtMostOne_of_read (exec_readSourceChanges ..) h
  | setDesk dir port on => exact drawsAtMostOne_of_request (exec_setDesk dir port on s) (setDesk_drawsNone dir port on) h
  | restartLane n => exact drawsAtMostOne_of_request (exec_restartLane n s) (restartLaneNumbered_drawsNone n) h
  | pollAlert => exact drawsAtMostOne_of_request (exec_pollAlert s) pollAlert_drawsNone h
  | ackAlert cls => exact drawsAtMostOne_of_request (exec_ackAlert cls s) (ackAlert_drawsNone cls) h
  | setAlert ms m lo st w => exact drawsAtMostOne_of_request (exec_setAlert ms m lo st w s) (setAlert_drawsNone ms m lo st w) h
  | status => exact drawsAtMostOne_of_request (exec_status ..) (fun _ => ⟨rfl, rfl⟩) h
  | clearClip => exact drawsAtMostOne_of_request (exec_clearClip ..) (fun _ => ⟨rfl, rfl⟩) h
  | ackNotices => exact drawsAtMostOne_of_request (exec_ackNotices ..) (fun _ => ⟨rfl, rfl⟩) h
  | setGuards => exact drawsAtMostOne_of_request (exec_setGuards ..) (fun _ => ⟨rfl, rfl⟩) h
  | clearAll => exact drawsAtMostOne_of_request (exec_clearAll ..) (fun _ => ⟨rfl, rfl⟩) h
  | openBatch => exact drawsAtMostOne_of_request (exec_openBatch ..) (fun _ => ⟨rfl, rfl⟩) h
  | addEdit => exact drawsAtMostOne_of_request (exec_addEdit ..) (fun _ => ⟨rfl, rfl⟩) h
  | armBatch => exact drawsAtMostOne_of_request (exec_armBatch ..) (fun _ => ⟨rfl, rfl⟩) h
  | releaseBatch => exact drawsAtMostOne_of_request (exec_releaseBatch ..) (fun _ => ⟨rfl, rfl⟩) h
  | cancelBatch => exact drawsAtMostOne_of_request (exec_cancelBatch ..) (fun _ => ⟨rfl, rfl⟩) h
  | readSource => exact drawsAtMostOne_of_request (exec_readSource ..) (fun _ => ⟨rfl, rfl⟩) h
  | setMonitor => exact drawsAtMostOne_of_request (exec_setMonitor ..) (fun _ => ⟨rfl, rfl⟩) h
  | setChangeEnables e => exact drawsAtMostOne_of_request (exec_setChangeEnables e s) (fun _ => ⟨rfl, rfl⟩) h
  | ackSources => exact drawsAtMostOne_of_request (exec_ackSources ..) (fun _ => ⟨rfl, rfl⟩) h
  | readLane => exact drawsAtMostOne_of_request (exec_readLane ..) (fun _ => ⟨rfl, rfl⟩) h
  | setLane => exact drawsAtMostOne_of_request (exec_setLane ..) (fun _ => ⟨rfl, rfl⟩) h
  | ackLanes => exact drawsAtMostOne_of_request (exec_ackLanes ..) (fun _ => ⟨rfl, rfl⟩) h
  | refFramePulse => exact drawsAtMostOne_of_leaving_event (exec_refFramePulse s) (referencePulse_drawsNone s) h
  | quietEntered n => exact drawsAtMostOne_of_leaving_event (exec_quietEntered n s) (enterQuiet_drawsNone n s) h
  | sourceRunning n => exact drawsAtMostOne_of_leaving_event (exec_sourceRunning n s) (workOne_if_drawsNone _ n s) h
  | closeMarkTaken n => exact drawsAtMostOne_of_leaving_event (exec_closeMarkTaken n s) (workOne_if_drawsNone _ n s) h
  | lossTimerExpiry n => exact drawsAtMostOne_of_leaving_event (exec_lossTimerExpiry n s) (workOne_if_drawsNone _ n s) h
  | clearAllExecute =>
    exact drawsAtMostOne_of_leaving_event (exec_clearAllExecute s) ⟨clearAllStep_pending s, clearAllStep_freeCount s⟩ h
  | batchApply =>
    exact drawsAtMostOne_of_leaving_event (exec_batchApply s) ⟨batchApplyStep_pending s, batchApplyStep_freeCount s⟩ h
  | failoverTrigger => exact drawsAtMostOne_of_leaving_event (exec_failoverTrigger ..) ⟨rfl, rfl⟩ h
  | rampEnd => exact drawsAtMostOne_of_leaving_event (exec_rampEnd ..) ⟨rfl, rfl⟩ h
  | retireRampEnd => exact drawsAtMostOne_of_leaving_event (exec_retireRampEnd ..) ⟨rfl, rfl⟩ h
  | presenceTimeout => exact drawsAtMostOne_of_leaving_event (exec_presenceTimeout ..) ⟨rfl, rfl⟩ h
  | pulseEnd => exact drawsAtMostOne_of_leaving_event (exec_pulseEnd ..) ⟨rfl, rfl⟩ h
  | batchDue => exact drawsAtMostOne_of_leaving_event (exec_batchDue ..) ⟨rfl, rfl⟩ h
  | setLaneInForce => exact drawsAtMostOne_of_leaving_event (exec_setLaneInForce ..) ⟨rfl, rfl⟩ h
  | closePacketGrant => exact drawsAtMostOne_of_leaving_event (exec_closePacketGrant ..) ⟨rfl, rfl⟩ h
  | sampleTick desk =>
    exact drawsAtMostOne_of_leaving_wellFormed (exec_sampleTick desk s) ⟨tick_pending desk s, tick_freeCount desk s⟩ h
  | inputLineEvent n line ws =>
    exact drawsAtMostOne_of_leaving_wellFormed (exec_inputLineEvent n line ws s)
      ⟨lineEvent_pending n line ws s, lineEvent_freeCount n line ws s⟩ h
  | deskFrameInProgressCompleted fs =>
    exact drawsAtMostOne_of_leaving_wellFormed (exec_deskFrameInProgressCompleted fs s) ⟨rfl, rfl⟩ h

/-- Settles O2: a command draws by its transaction or by a short reset alone, and none of its works reaches the queue. -/
theorem execLeavesTheQueueAlone : Obligations.ExecLeavesTheQueueAlone := fun _ _ _ h => exec_drawsAtMostOne h

/-! ## One step -/

theorem step_nil (h : s.pending = []) : step s = .next s := by
  rw [step, h]

/-- Settles O1: the queue is empty, or it has a front command and a rest. -/
theorem stepTakesTheFrontCommand : Obligations.StepTakesTheFrontCommand :=
  ⟨fun _ _ _ h => step_cons h, fun _ h => step_nil h⟩

end Sys2Proof.Machine
end

section
/-!
The Route Table stays sound (R16 to R18, R29, R64): every operation on a record keeps its legs in line with its state, and every operation
on the table keeps the destination map naming exactly the records that are not FREE.
-/
namespace Sys2Proof.Machine

/-! ## Records -/

section
variable {r r' : Record} {leg : Leg}

/-- A ramp that has just started from a leg without the retire mark (R64, R65). -/
theorem rampOk_start {c : Fin 8} (hc : c.val ≠ 0) (hm : leg.retire = false) : RampOk ⟨leg, rampLength c, 0⟩ := by
  have hpos : 0 < rampLength c := by
    rcases rampLength_bounds c with ⟨h, -⟩ | ⟨-, h, -⟩
    · exact absurd h hc
    · omega
  exact ⟨⟨c, hc, rfl⟩, hpos, hm⟩

/-- A ramp that does not finish at its next position stays within its length (R67). -/
theorem RampOk.rampStep {ramp : Ramp} (h : RampOk ramp) (hf : ¬ rampFinishes ramp = true) : RampOk (rampStep ramp) := by
  obtain ⟨hlen, -, hm⟩ := h
  have hlt : ramp.position + 1 < ramp.length := by simpa [rampFinishes] using hf
  exact ⟨hlen, hlt, hm⟩

theorem bringInLive_recordOk (hcur : r.current.retire = false) (hb : r.onBackup = true → r.backup.isSome = true)
    (hl : LegOk leg) (h : bringInLive r leg = some r') : RecordOk r' := by
  obtain ⟨-, -, hbackup, hon, -, -, -⟩ := bringInLive_keeps h
  refine ⟨?_, by rwa [hbackup, hon]⟩
  by_cases hc : leg.code.val = 0
  · cases hm : leg.retire with
    | false => rw [bringInLive_cut hc hm] at h; cases h; exact hm
    | true => rw [bringInLive_free hc hm] at h; cases h
  · rw [bringInLive_ramp hc] at h
    cases h
    cases hm : leg.retire with
    | false => exact ⟨hm, rampOk_start hc hcur⟩
    | true => exact ⟨hm, hl hm, rampOk_start hc hcur⟩

/-- A leg change keeps a record sound (R25, R65, R66). -/
theorem bringIn_recordOk (hr : RecordOk r) (hl : LegOk leg) (h : bringIn r leg = some r') : RecordOk r' := by
  obtain ⟨hp, hb⟩ := hr
  cases hphase : r.phase with
  | live =>
    rw [bringIn_live hphase] at h
    rw [hphase] at hp
    exact bringInLive_recordOk hp hb hl h
  | ramping ramp next =>
    rw [bringIn_ramping hphase] at h
    cases h
    rw [hphase] at hp
    obtain ⟨hcur, hramp⟩ : r.current.retire = false ∧ RampOk ramp := by
      cases next with
      | none => exact hp
      | some n => exact ⟨hp.1, hp.2.1⟩
    exact ⟨⟨hcur, hramp, hl⟩, hb⟩
  | retiring ramp =>
    rw [bringIn_retiring hphase] at h
    cases h
    exact ⟨hp, hb⟩

/-- The end of a ramp keeps a record sound (R68). -/
theorem endRamp_recordOk (hr : RecordOk r) (h : endRamp r = some r') : RecordOk r' := by
  obtain ⟨hp, hb⟩ := hr
  cases hphase : r.phase with
  | live =>
    obtain rfl : r = r' := by simpa [endRamp, hphase] using h
    exact ⟨hp, hb⟩
  | ramping ramp next =>
    rw [hphase] at hp
    cases next with
    | none =>
      rw [endRamp_alone hphase] at h
      cases h
      exact ⟨hp.1, hb⟩
    | some leg =>
      rw [endRamp_next hphase] at h
      obtain ⟨hcur, -, hl⟩ := hp
      exact bringInLive_recordOk hcur hb hl h
  | retiring ramp => rw [endRamp_retiring hphase] at h; cases h

/-- Step 5 keeps a record sound (R67, R68). -/
theorem advanceRecord_recordOk (hr : RecordOk r) (h : advanceRecord r = some r') : RecordOk r' := by
  cases hphase : r.phase with
  | live =>
    rw [advanceRecord_live hphase] at h
    cases h
    exact hr
  | ramping ramp next =>
    rw [advanceRecord_ramping hphase] at h
    split at h
    · exact endRamp_recordOk hr h
    · next hf =>
      cases h
      obtain ⟨hp, hb⟩ := hr
      rw [hphase] at hp
      refine ⟨?_, hb⟩
      cases next with
      | none => exact ⟨hp.1, hp.2.rampStep hf⟩
      | some leg => exact ⟨hp.1, hp.2.1.rampStep hf, hp.2.2⟩
  | retiring ramp =>
    rw [advanceRecord_retiring hphase] at h
    split at h
    · cases h
    · next hf =>
      cases h
      obtain ⟨hp, hb⟩ := hr
      rw [hphase] at hp
      exact ⟨⟨hp.1, hp.2.1, hp.2.2.rampStep hf⟩, hb⟩

/-- A record that takes its backup stays sound: a queued retire leg reads SILENCE, so it matches no entry (R72, R75). -/
theorem takeBackup_recordOk {b : Backup} {taken : Taken} (hr : RecordOk r) (hb : r.backup = some b)
    (hmatch : matchesEntry taken r b = true) : RecordOk (takeBackup r b) ∧ (takeBackup r b).dest = r.dest := by
  have hkept (leg : Leg) (hl : LegOk leg) :
      RecordOk ((bringIn r leg).getD r) ∧ ((bringIn r leg).getD r).dest = r.dest ∧ ((bringIn r leg).getD r).backup = r.backup := by
    cases hin : bringIn r leg with
    | none => exact ⟨hr, rfl, rfl⟩
    | some r' =>
      obtain ⟨hd, -, hbk, -⟩ := bringIn_keeps hin
      exact ⟨bringIn_recordOk hr hl hin, hd, hbk⟩
  obtain ⟨⟨hp, -⟩, hd, hbk⟩ : RecordOk (failoverLegs r b) ∧ (failoverLegs r b).dest = r.dest ∧ (failoverLegs r b).backup = r.backup := by
    have hfail := hkept (failoverLeg r b) nofun
    cases hphase : r.phase with
    | live => simpa only [failoverLegs, hphase] using hfail
    | retiring ramp => simpa only [failoverLegs, hphase] using hfail
    | ramping ramp next =>
      cases next with
      | none => simpa only [failoverLegs, hphase] using hfail
      | some next =>
        obtain ⟨hp, hon⟩ := hr
        rw [hphase] at hp
        obtain ⟨hcur, hramp, hl⟩ := hp
        rw [failoverLegs_queued hphase]
        refine ⟨⟨⟨hcur, hramp, fun hm => ?_⟩, hon⟩, rfl, rfl⟩
        have hlatest : (latestLeg r).source = .silence := by rw [latestLeg, hphase]; exact hl hm
        simp [matchesEntry, hlatest] at hmatch
  exact ⟨⟨hp, fun _ => by rw [takeBackup, hbk, hb]; rfl⟩, hd⟩

/-- Step 3 keeps a record sound, and its destination (R72 to R78). -/
theorem failoverRecord_recordOk (sources : Vector Source 192) (taken : Taken) (hr : RecordOk r) :
    RecordOk (failoverRecord sources taken r) ∧ (failoverRecord sources taken r).dest = r.dest := by
  rcases failoverRecord_cases sources taken r with h | ⟨b, hb, -, ⟨-, -, h⟩ | ⟨-, hm, -, h⟩ | ⟨-, -, -, h⟩⟩
  · rw [h]; exact ⟨hr, rfl⟩
  · rw [h]; exact ⟨hr, rfl⟩
  · rw [h]; exact takeBackup_recordOk hr hb hm
  · rw [h]; exact ⟨hr, rfl⟩

theorem retireLeg_legOk (r : Record) (code : Fin 8) : LegOk (retireLeg r code) := fun _ => rfl

/-- A CLEAR_ALL keeps a record sound, and its destination (R61). -/
theorem clearRecord_recordOk (rt : RouteTable) (force : Bool) (hr : RecordOk r) :
    RecordOk (clearRecord rt force r) ∧ (clearRecord rt force r).dest = r.dest := by
  unfold clearRecord
  split
  · exact ⟨hr, rfl⟩
  · cases h : bringIn r (retireLeg r 1) with
    | none => exact ⟨hr, rfl⟩
    | some r' => exact ⟨bringIn_recordOk hr (retireLeg_legOk r 1) h, (bringIn_keeps h).1⟩

end

/-! ## Meters -/

theorem magnitude_le (x : Sample) : magnitude x ≤ 8388607 := min_le_right _ _

theorem MeterOk.take {m : Meter} (h : MeterOk m) (x : Sample) : MeterOk (meterTake m x) := by
  obtain ⟨hrun, hpeak, hlevel⟩ := h
  exact ⟨max_le hrun (magnitude_le x), hpeak, hlevel⟩

theorem MeterOk.latch {m : Meter} (h : MeterOk m) : MeterOk (meterLatch m) := ⟨Nat.zero_le _, h.1, rfl⟩

/-! ## The table -/

section
variable {rt rt' : RouteTable} {i : Fin 160} {r : Record}

/-- The destination of the record in a slot, none of a FREE slot. -/
def destAt (rt : RouteTable) (i : Fin 160) : Option (Fin 192) := rt.slots[i].record.map (·.dest)

theorem destAt_of_record (h : rt.slots[i].record = some r) : destAt rt i = some r.dest := by rw [destAt, h]; rfl

theorem namedOk_iff (rt : RouteTable) (i : Fin 160) : NamedOk rt i ↔ ∀ d, destAt rt i = some d → rt.destMap[d] = some i := by
  unfold NamedOk destAt
  cases rt.slots[i].record with
  | none => simp
  | some r => simp

theorem entryOk_iff (rt : RouteTable) (d : Fin 192) : EntryOk rt d ↔ ∀ i, rt.destMap[d] = some i → destAt rt i = some d := by
  unfold EntryOk destAt
  cases rt.destMap[d] with
  | none => simp
  | some i => simp

/-- The destination map and the records name each other (R29). -/
abbrev MapOk (rt : RouteTable) : Prop := ∀ d i, rt.destMap[d] = some i ↔ destAt rt i = some d

theorem RouteOk.map (h : RouteOk rt) : MapOk rt := fun d i =>
  ⟨(entryOk_iff rt d).1 (h.mapped d) i, (namedOk_iff rt i).1 (h.named i) d⟩

theorem routeOk_of_map (hs : ∀ i : Fin 160, SlotOk rt.slots[i]) (hmap : MapOk rt) (hm : ∀ d : Fin 192, MeterOk rt.destMeters[d]) :
    RouteOk rt :=
  ⟨hs, fun d => (entryOk_iff rt d).2 fun i => (hmap d i).1, fun i => (namedOk_iff rt i).2 fun d => (hmap d i).2, hm⟩

theorem RouteOk.recordOk (h : RouteOk rt) (hi : rt.slots[i].record = some r) : RecordOk r := by
  obtain ⟨-, hr⟩ := h.slots i
  rwa [hi] at hr

/-- A slot with a record of the same destination, which is sound. -/
theorem SlotOk.with_record {sl : RecordSlot} (h : SlotOk sl) (hr : RecordOk r) : SlotOk { sl with record := some r } := ⟨h.1, hr⟩

/-- Records rewritten each by itself, the destination map as before. -/
theorem RouteOk.of_records (h : RouteOk rt) (hmap : rt'.destMap = rt.destMap) (hs : ∀ i : Fin 160, SlotOk rt'.slots[i])
    (hd : ∀ i, destAt rt' i = destAt rt i) (hm : ∀ d : Fin 192, MeterOk rt'.destMeters[d]) : RouteOk rt' :=
  routeOk_of_map hs (fun d i => by rw [hmap, hd]; exact h.map d i) hm

/-- Slots, map and meters are what the soundness of a table is about. -/
theorem RouteOk.of_same (h : RouteOk rt) (hs : rt'.slots = rt.slots) (hmap : rt'.destMap = rt.destMap)
    (hm : rt'.destMeters = rt.destMeters) : RouteOk rt' :=
  h.of_records hmap (fun i => by rw [hs]; exact h.slots i) (fun i => by rw [destAt, hs, destAt]) fun d => by
    rw [hm]; exact h.meters d

/-- A function over all records that keeps each sound, and its destination. -/
theorem RouteOk.of_map {f : Record → Record} (h : RouteOk rt) (hmap : rt'.destMap = rt.destMap)
    (hs : ∀ i : Fin 160, rt'.slots[i] = { rt.slots[i] with record := rt.slots[i].record.map f })
    (hf : ∀ r, RecordOk r → RecordOk (f r) ∧ (f r).dest = r.dest) (hm : ∀ d : Fin 192, MeterOk rt'.destMeters[d]) :
    RouteOk rt' := by
  refine h.of_records hmap (fun i => ?_) (fun i => ?_) hm
  · rw [hs i]
    refine ⟨(h.slots i).1, ?_⟩
    cases hr : rt.slots[i].record with
    | none => trivial
    | some r => exact (hf r (h.recordOk hr)).1
  · rw [destAt, hs i, destAt]
    cases hr : rt.slots[i].record with
    | none => rfl
    | some r => exact congrArg some (hf r (h.recordOk hr)).2

theorem RouteOk.setRecord (h : RouteOk rt) (hi : rt.slots[i].record = some r) {r' : Record} (hr : RecordOk r')
    (hd : r'.dest = r.dest) : RouteOk (setRecord rt i r') := by
  have hslot (j : Fin 160) : (Machine.setRecord rt i r').slots[j] =
      if j = i then { rt.slots[j] with record := some r' } else rt.slots[j] := by
    by_cases hj : j = i
    · subst hj; simp
    · rw [if_neg hj]; exact bankModify_other _ _ hj
  refine h.of_records (setRecord_destMap ..) (fun j => ?_) (fun j => ?_) fun d => by rw [setRecord_destMeters]; exact h.meters d
  · rw [hslot]
    split
    · exact (h.slots j).with_record hr
    · exact h.slots j
  · rw [destAt, hslot]
    split
    · next hj => rw [hj, destAt_of_record hi, ← hd]; rfl
    · rfl

/-- A record of the table becomes FREE with its map entry (R26, R29). -/
theorem RouteOk.freeRecord (h : RouteOk rt) (hi : rt.slots[i].record = some r) : RouteOk (freeRecord rt i r.dest) := by
  have hslot (j : Fin 160) : (Machine.freeRecord rt i r.dest).slots[j] =
      if j = i then ⟨nextGen rt.slots[j].gen, none⟩ else rt.slots[j] := by
    by_cases hj : j = i
    · subst hj; simp
    · rw [if_neg hj]; exact bankModify_other _ _ hj
  have hentry (d : Fin 192) : (Machine.freeRecord rt i r.dest).destMap[d] = if d = r.dest then none else rt.destMap[d] := by
    by_cases hd : d = r.dest
    · subst hd; simp
    · rw [if_neg hd]; exact bankSet_other _ _ hd
  have hnamed : rt.destMap[r.dest] = some i := (h.map _ _).2 (destAt_of_record hi)
  refine routeOk_of_map (fun j => ?_) (fun d j => ?_) fun d => by rw [freeRecord_destMeters]; exact h.meters d
  · rw [hslot]
    split
    · exact ⟨nextGen_ne_zero _, trivial⟩
    · exact h.slots j
  · rw [hentry, destAt, hslot]
    by_cases hj : j = i
    · subst hj
      rw [if_pos rfl]
      refine iff_of_false ?_ nofun
      split
      · nofun
      · next hd => exact fun he => hd (Option.some.inj (((h.map d j).1 he).symm.trans (destAt_of_record hi)))
    · rw [if_neg hj]
      split
      · next hd =>
        subst hd
        exact iff_of_false nofun fun he => hj (Option.some.inj (((h.map _ _).2 he).symm.trans hnamed))
      · exact h.map d j

/-- What a leg change or the end of a ramp makes of a record put into the table. -/
theorem RouteOk.putRecord (h : RouteOk rt) (hi : rt.slots[i].record = some r) {o : Option Record}
    (ho : ∀ r', o = some r' → RecordOk r' ∧ r'.dest = r.dest) : RouteOk (putRecord rt i r.dest o) := by
  cases o with
  | none => exact h.freeRecord hi
  | some r' => exact h.setRecord hi (ho r' rfl).1 (ho r' rfl).2

/-! ## Edits at apply -/

/-- A record made in a FREE slot for a destination without one (R24, R50). -/
theorem RouteOk.createRecord (h : RouteOk rt) {d : Fin 192} {leg : Leg} {b : Option Backup} (hd : rt.destMap[d] = none)
    (hi : rt.slots[i].record = none) :
    RouteOk { Machine.setRecord rt i (Machine.createRecord d leg b) with destMap := bankSet rt.destMap d (some i) } := by
  have hslot (j : Fin 160) : (Machine.setRecord rt i (Machine.createRecord d leg b)).slots[j] =
      if j = i then { rt.slots[j] with record := some (Machine.createRecord d leg b) } else rt.slots[j] := by
    by_cases hj : j = i
    · subst hj; simp
    · rw [if_neg hj]; exact bankModify_other _ _ hj
  refine routeOk_of_map (fun j => ?_) (fun e j => ?_) fun e => by simpa using h.meters e
  · rw [hslot]
    split
    · exact (h.slots j).with_record ⟨rfl, nofun⟩
    · exact h.slots j
  · simp only [destAt, hslot]
    by_cases he : e = d
    · subst he
      by_cases hj : j = i
      · subst hj
        simp [Machine.createRecord]
      · rw [if_neg hj]
        refine iff_of_false (by simpa using Ne.symm hj) fun hn => ?_
        rw [(h.map e j).2 hn] at hd
        cases hd
    · rw [bankSet_other _ _ he]
      by_cases hj : j = i
      · subst hj
        rw [if_pos rfl]
        refine iff_of_false (fun hn => ?_) (by simpa [Machine.createRecord] using Ne.symm he)
        have := (h.map e j).1 hn
        rw [destAt, hi] at this
        cases this
      · rw [if_neg hj]
        exact h.map e j

theorem checkHandle_record {h : Handle} (hc : checkHandle rt h = .valid i r) : rt.slots[i].record = some r :=
  (checkHandle_valid.1 hc).2.1

/-- Every edit keeps the table sound (R49 to R53). -/
theorem RouteOk.applyEdit (h : RouteOk rt) (e : Edit) : RouteOk (applyEdit rt e).table := by
  have change {i : Fin 160} {r r₁ : Record} {leg : Leg} (hi : rt.slots[i].record = some r) (hr : RecordOk r₁) (hd : r₁.dest = r.dest)
      (hl : LegOk leg) : RouteOk (Machine.putRecord rt i r.dest (bringIn r₁ leg)) :=
    h.putRecord hi fun r' hb => ⟨bringIn_recordOk hr hl hb, (bringIn_keeps hb).1.trans hd⟩
  cases e with
  | create d leg b =>
    simp only [Machine.applyEdit, applyCreate]
    split
    · exact h
    · split
      · exact h
      · next hd =>
        split
        · exact h
        · next i hi => exact h.createRecord (by simpa using hd) (lowestFree_spec hi).1
  | modify hd p =>
    simp only [Machine.applyEdit, applyModify]
    split
    · next i r hc =>
      have hi := checkHandle_record hc
      have hr := h.recordOk hi
      split
      · exact h
      · split
        · exact h
        · refine change hi ?_ ?_ nofun
          · unfold modifiedRecord
            split
            · exact ⟨hr.1, nofun⟩
            · exact hr
          · unfold modifiedRecord
            split <;> rfl
    all_goals exact h
  | retire hd code =>
    simp only [Machine.applyEdit, applyRetire]
    split
    · next i r hc =>
      have hi := checkHandle_record hc
      split
      · exact h
      · split
        · exact h
        · exact change hi (h.recordOk hi) rfl (retireLeg_legOk r code)
    all_goals exact h
  | revert hd =>
    simp only [Machine.applyEdit, applyRevert]
    split
    · next i r hc =>
      have hi := checkHandle_record hc
      split
      · exact h
      · split
        · exact h
        · split
          · exact change (r₁ := { r with onBackup := false }) hi ⟨(h.recordOk hi).1, nofun⟩ rfl nofun
          · exact h
    all_goals exact h

theorem RouteOk.applyEdits (h : RouteOk rt) (edits : List ListedEdit) : RouteOk (applyEdits rt edits).1 := by
  induction edits generalizing rt with
  | nil => exact h
  | cons e es ih => exact ih (h.applyEdit e.edit)

theorem RouteOk.applyBatch (h : RouteOk rt) (edits : List ListedEdit) (m : BatchMode) (a : Byte) :
    RouteOk (applyBatch rt edits m a).1 := by
  rcases applyBatch_table rt edits m a with he | he
  · rw [he]; exact h.applyEdits edits
  · rw [he]; exact h

/-! ## The steps of a tick -/

theorem RouteOk.applySlot {w : RouteTable × EditStage} (h : RouteOk w.1) (i : Fin 4) : RouteOk (applySlot w i).1 := by
  cases hd : isDue w.2.slots[i] with
  | false => rw [applySlot_not_due hd]; exact h
  | true =>
    obtain ⟨edits, m, t, a, hs, ht⟩ := isDue_iff.1 hd
    rw [applySlot_due hs ht]
    exact h.applyBatch edits m a

theorem RouteOk.applyDue (h : RouteOk rt) (es : EditStage) : RouteOk (applyDue rt es).1 := by
  unfold Machine.applyDue
  generalize es.queue = is
  generalize hw : (rt, es) = w
  have hw1 : RouteOk w.1 := by rw [← hw]; exact h
  clear hw
  induction is generalizing w with
  | nil => exact hw1
  | cons i is ih => exact ih _ (hw1.applySlot i)

theorem RouteOk.carryOutClearAll (h : RouteOk rt) (es : EditStage) : RouteOk (carryOutClearAll rt es).1 := by
  unfold Machine.carryOutClearAll
  split
  · exact h
  · next force _ =>
    exact h.of_map (clearRoutes_destMap rt force) (fun i => by simp) (fun r => clearRecord_recordOk rt force)
      fun d => by simpa using h.meters d

theorem RouteOk.failover (h : RouteOk rt) (sources : Vector Source 192) (taken : Taken) : RouteOk (failover sources taken rt) :=
  h.of_map (failover_destMap ..) (fun i => by simp) (fun r => failoverRecord_recordOk sources taken) fun d => by simpa using h.meters d

theorem RouteOk.takeTriggers (h : RouteOk rt) (sources : Vector Source 192) : RouteOk (takeTriggers sources rt) := by
  refine h.of_map (takeTriggers_destMap ..) (fun i => ?_) (fun r => failoverRecord_recordOk sources ⟨rt.pendingLost, rt.pendingQuiet⟩)
    fun d => by rw [takeTriggers_destMeters]; exact h.meters d
  rw [takeTriggers_slots, failover_slots]
  exact bankMap_get _ _ _ _

theorem RouteOk.computeSamples (h : RouteOk rt) (sources : Vector Source 192) : RouteOk (computeSamples sources rt) :=
  h.of_map (f := fun r => { r with clip := r.clip || recordSaturates sources r }) (computeSamples_destMap ..)
    (fun i => by simp [clipSlot]) (fun r hr => ⟨hr, rfl⟩) fun d => by simpa using (h.meters d).take _

/-- A slot after step 5: FREE with the next generation when its record ends, else with its record moved on (R67 to R69). -/
theorem advanceSlot_cases (sl : RecordSlot) :
    (sl.record = none ∧ advanceSlot sl = sl) ∨
      ∃ r, sl.record = some r ∧ ((advanceRecord r = none ∧ advanceSlot sl = ⟨nextGen sl.gen, none⟩) ∨
        ∃ r', advanceRecord r = some r' ∧ advanceSlot sl = { sl with record := some r' }) := by
  unfold advanceSlot
  cases hr : sl.record with
  | none => exact .inl ⟨rfl, rfl⟩
  | some r =>
    refine .inr ⟨r, rfl, ?_⟩
    cases ha : advanceRecord r with
    | none => exact .inl ⟨rfl, by simp only [ha]⟩
    | some r' => exact .inr ⟨r', rfl, by simp only [ha]⟩

theorem SlotOk.advanceSlot {sl : RecordSlot} (h : SlotOk sl) : SlotOk (advanceSlot sl) := by
  rcases advanceSlot_cases sl with ⟨-, he⟩ | ⟨r, hr, ⟨-, he⟩ | ⟨r', ha, he⟩⟩
  · rw [he]; exact h
  · rw [he]; exact ⟨nextGen_ne_zero _, trivial⟩
  · rw [he]
    obtain ⟨-, hok⟩ := id h
    rw [hr] at hok
    exact h.with_record (advanceRecord_recordOk hok ha)

/-- A slot that step 5 does not free keeps the destination of its record. -/
theorem advanceSlot_dest (sl : RecordSlot) :
    (Machine.advanceSlot sl).record.map (·.dest) = if freedByAdvance sl then none else sl.record.map (·.dest) := by
  unfold freedByAdvance
  rcases advanceSlot_cases sl with ⟨hr, he⟩ | ⟨r, hr, ⟨-, he⟩ | ⟨r', ha, he⟩⟩
  · simp [he, hr]
  · simp [he, hr]
  · simp [he, hr, (advanceRecord_keeps ha).1]

theorem RouteOk.advanceRamps (h : RouteOk rt) : RouteOk (advanceRamps rt) := by
  refine routeOk_of_map (fun i => by simpa using (h.slots i).advanceSlot) (fun d i => ?_) fun d => by simpa using h.meters d
  have hentry : (Machine.advanceRamps rt).destMap[d] = some i ↔ rt.destMap[d] = some i ∧ ¬ freedByAdvance rt.slots[i] = true := by
    simp only [advanceRamps_destMap, Fin.getElem_fin, bankMap_get, mapAfterAdvance]
    cases rt.destMap[d.val] with
    | none => simp
    | some j =>
      simp only [Option.ite_none_left_eq_some, Option.some.injEq]
      constructor
      · rintro ⟨hf, rfl⟩; exact ⟨rfl, hf⟩
      · rintro ⟨rfl, hf⟩; exact ⟨hf, rfl⟩
  have hdest : destAt (Machine.advanceRamps rt) i = if freedByAdvance rt.slots[i] then none else destAt rt i := by
    simpa [destAt] using advanceSlot_dest rt.slots[i]
  rw [hentry, hdest, h.map d i]
  split
  · next hf => exact iff_of_false (fun hn => hn.2 hf) nofun
  · next hf => exact and_iff_left hf

theorem RouteOk.routeTick (h : RouteOk rt) (sources : Vector Source 192) (es : EditStage) : RouteOk (routeTick sources rt es).1 :=
  ((((h.carryOutClearAll es).applyDue _).takeTriggers sources).computeSamples sources).advanceRamps

/-! ## Entries, meters, rows of ramps -/

theorem RouteOk.addTriggers (h : RouteOk rt) (lost quiet : Fin 192 → Bool) : RouteOk (addTriggers rt lost quiet) :=
  h.of_same (addTriggers_slots ..) (addTriggers_destMap ..) (addTriggers_destMeters ..)

theorem RouteOk.latchDestMeters (h : RouteOk rt) : RouteOk (latchDestMeters rt) :=
  h.of_records (latchDestMeters_destMap rt) (fun i => by simpa using h.slots i) (fun i => by simp [destAt])
    fun d => by simpa using (h.meters d).latch

theorem RouteOk.takeTrigger (h : RouteOk rt) (sources : Vector Source 192) (n : Fin 192) (kind : TriggerKind) :
    RouteOk (takeTrigger sources n kind rt) := by
  cases hin : entryStands rt n kind with
  | false => rw [takeTrigger_absent hin]; exact h
  | true =>
    refine h.of_map ?_ (takeTrigger_slot hin) (fun r => failoverRecord_recordOk sources (oneEntry n kind)) fun d => ?_
    · rw [takeTrigger_stands hin]
    · rw [takeTrigger_stands hin]
      exact h.meters d

/-- A ramp that ends keeps all of its record but its legs and state. -/
theorem endRamp_dest {r r' : Record} (h : endRamp r = some r') : r'.dest = r.dest := by
  unfold endRamp at h
  split at h
  · cases h; rfl
  · cases h; rfl
  · exact (bringInLive_keeps h).1
  · cases h

theorem RouteOk.endRamp (h : RouteOk rt) (hi : rt.slots[i].record = some r) : RouteOk (Machine.putRecord rt i r.dest (endRamp r)) :=
  h.putRecord hi fun _ he => ⟨endRamp_recordOk (h.recordOk hi) he, endRamp_dest he⟩

theorem RouteOk.rampEndAt (h : RouteOk rt) (i : Fin 160) : RouteOk (rampEndAt rt i) := by
  unfold Machine.rampEndAt
  split
  · exact h
  · next r hi =>
    split
    · split
      · exact h.endRamp hi
      · exact h
    all_goals exact h

theorem RouteOk.retireEndAt (h : RouteOk rt) (i : Fin 160) : RouteOk (retireEndAt rt i) := by
  unfold Machine.retireEndAt
  split
  · exact h
  · next r hi =>
    split
    · split
      · exact h.endRamp hi
      · exact h
    all_goals exact h

/-! ## Requests at the table -/

theorem RouteOk.clearClip (h : RouteOk rt) (hd : Handle) : RouteOk (clearClip rt hd).1 := by
  unfold Machine.clearClip
  split
  · next i r hc =>
    have hi := checkHandle_record hc
    have hr := h.recordOk hi
    exact h.setRecord hi hr rfl
  · exact h

theorem RouteOk.ackNotice (h : RouteOk rt) (a : NoticeAck) : RouteOk (ackNotice rt a).1 := by
  unfold Machine.ackNotice
  split
  · next i r hc =>
    have hi := checkHandle_record hc
    have hr := h.recordOk hi
    exact h.setRecord hi hr rfl
  all_goals exact h

theorem RouteOk.ackNoticeList (h : RouteOk rt) (entries : List NoticeAck) : RouteOk (ackNoticeList rt entries).1 := by
  induction entries generalizing rt with
  | nil => exact h
  | cons a rest ih => exact ih (h.ackNotice a)

theorem RouteOk.ackNotices (h : RouteOk rt) (count : Byte) (entries : List NoticeAck) : RouteOk (ackNotices rt count entries).1 := by
  unfold Machine.ackNotices
  split
  · exact h.ackNoticeList entries
  · exact h

theorem RouteOk.setGuards (h : RouteOk rt) (mask : Word) : RouteOk (setGuards rt mask).1 := by
  unfold Machine.setGuards
  split
  · exact h.of_same rfl rfl rfl
  · exact h

theorem RouteOk.askClearAll (h : RouteOk rt) (force : Bool) : RouteOk (askClearAll rt force) :=
  h.of_same (askClearAll_slots ..) (askClearAll_destMap ..) (askClearAll_destMeters ..)

theorem routeOk_reset : RouteOk resetRoute := by
  refine routeOk_of_map (fun i => ?_) (fun d i => ?_) fun d => ?_
  · simp [resetRoute, SlotOk]
  · simp [resetRoute, destAt]
  · simp [resetRoute, resetMeter, levelCode]

end

end Sys2Proof.Machine
end

section
/-!
The Edit Stage stays sound (R41 to R44): the requests, the switch points, step 2 of a tick and CLEAR_ALL each keep the edit lists, the
timing entries, the arming queue and the one OPEN slot.
-/
namespace Sys2Proof.Machine

/-! ## Timing entries and edit lists -/

/-- A switch point keeps a timing entry sound (R10). -/
theorem TimingOk.count {t : Timing} (h : TimingOk t) : TimingOk (countTiming t) := by
  obtain ⟨hle, hdue, himm⟩ := h
  unfold countTiming
  split
  · exact ⟨hle, hdue, himm⟩
  · next hd =>
    have hpos : t.remaining ≠ 0 := fun h0 => hd (hdue.2 h0)
    refine ⟨by dsimp only; omega, ?_, fun hs => absurd (himm hs) hd⟩
    simp only [decide_eq_true_eq]
    omega

theorem decodeTiming_timingOk {timing frames : Byte} {t : Timing} (h : decodeTiming timing frames = some t) : TimingOk t := by
  unfold decodeTiming at h
  split at h
  · cases h
  · cases h
    exact ⟨Nat.zero_le _, by simp, fun _ => rfl⟩
  · next src hne _ =>
    split at h
    · next hf =>
      cases h
      refine ⟨hf.2, ?_, fun hs => absurd hs ?_⟩
      · simp only [Bool.false_eq_true, false_iff]
        omega
      · rintro rfl
        exact hne rfl
    · cases h

/-- An edit that passes checks 3 to 7 keeps the list sound (R44). -/
theorem ListOk.append {rt : RouteTable} {list : List ListedEdit} {f : EditFields} {e : ListedEdit} (h : ListOk list)
    (hj : judgeEdit rt list f = .ok e) : ListOk (list ++ [e]) := by
  unfold judgeEdit at hj
  split at hj
  · cases hj
  · split at hj
    · cases hj
    · split at hj
      · cases hj
      · next hlen =>
        split at hj
        · cases hj
        · next hdup =>
          cases hj
          obtain ⟨-, hnd⟩ := h
          refine ⟨by simpa using hlen, ?_⟩
          rw [List.map_append, List.nodup_append]
          refine ⟨hnd, List.nodup_singleton _, fun a ha b hb => ?_⟩
          obtain ⟨x, hx, rfl⟩ := List.mem_map.1 ha
          rw [List.map_singleton, List.mem_singleton] at hb
          subst hb
          intro hxd
          exact hdup (List.any_eq_true.2 ⟨x, hx, by simpa using hxd⟩)

/-! ## One slot replaced, every slot rewritten -/

section
variable {es es' : EditStage} {i : Fin 4} {b : BatchSlot}

/-- One slot replaced: the queue follows it, and an OPEN one is the only one. -/
theorem EditOk.of_slot (h : EditOk es) (hs : es'.slots = bankSet es.slots i b) (hb : BatchSlotOk b)
    (hq : ∀ j, j ∈ es'.queue ↔ if j = i then isArmed b = true else j ∈ es.queue) (hn : es'.queue.Nodup)
    (ho : isOpened b = true → ∀ j : Fin 4, isOpened es.slots[j] = true → j = i) : EditOk es' := by
  have hslot (j : Fin 4) : es'.slots[j] = if j = i then b else es.slots[j] := by
    rw [hs]
    by_cases hj : j = i
    · subst hj; simp
    · rw [if_neg hj]; exact bankSet_other _ _ hj
  refine ⟨fun j => ?_, fun j => ?_, hn, fun j k hj hk => ?_⟩
  · rw [hslot]
    split
    · exact hb
    · exact h.slots j
  · rw [hq, hslot]
    split
    · rfl
    · exact h.queued j
  · rw [hslot] at hj hk
    split at hj <;> split at hk
    · next hji hki => rw [hji, hki]
    · next hji _ => rw [hji, ho hj k hk]
    · next _ hki => rw [hki, ho hk j hj]
    · exact h.oneOpen j k hj hk

/-- A slot that is not ARMED replaced by one that is not, the queue as it was. -/
theorem EditOk.of_unqueued (h : EditOk es) (hs : es'.slots = bankSet es.slots i b) (hq : es'.queue = es.queue)
    (hi : isArmed es.slots[i] = false) (hb : BatchSlotOk b) (ha : isArmed b = false)
    (ho : isOpened b = true → ∀ j : Fin 4, isOpened es.slots[j] = true → j = i) : EditOk es' := by
  refine h.of_slot hs hb (fun j => ?_) (hq ▸ h.once) ho
  rw [hq, ha]
  split
  · next hj =>
    subst hj
    rw [h.queued, hi]
  · rfl

/-- A slot that leaves the queue: FREE or DONE. -/
theorem EditOk.of_dequeued (h : EditOk es) (hs : es'.slots = bankSet es.slots i b) (hq : es'.queue = es.queue.filter (· ≠ i))
    (hb : BatchSlotOk b) (ha : isArmed b = false) (ho : isOpened b = false) : EditOk es' := by
  refine h.of_slot hs hb (fun j => ?_) (hq ▸ h.once.filter _) fun hop => ?_
  · rw [hq, ha]
    by_cases hj : j = i
    · simp [hj]
    · simp [hj]
  · rw [ho] at hop
    cases hop

/-- Every slot rewritten without changing which are ARMED and which are OPEN. -/
theorem EditOk.of_rewritten (h : EditOk es) (hq : es'.queue = es.queue)
    (hs : ∀ j : Fin 4, BatchSlotOk es'.slots[j] ∧ isArmed es'.slots[j] = isArmed es.slots[j] ∧
      isOpened es'.slots[j] = isOpened es.slots[j]) : EditOk es' := by
  refine ⟨fun j => (hs j).1, fun j => ?_, hq ▸ h.once, fun j k => ?_⟩
  · rw [hq, (hs j).2.1]
    exact h.queued j
  · rw [(hs j).2.2, (hs k).2.2]
    exact h.oneOpen j k

/-- A slot that is OPEN, DONE or FREE is not ARMED. -/
theorem EditOk.free_setSlot (h : EditOk es) (hi : isArmed es.slots[i] = false) : EditOk (setSlot es i .free) :=
  h.of_unqueued (setSlot_slots ..) (setSlot_queue ..) hi trivial rfl nofun

/-! ## Requests -/

theorem EditOk.openBatch (h : EditOk es) : EditOk (openBatch es).1 := by
  unfold Machine.openBatch
  split
  · exact h
  · next hno =>
    split
    · next i hi =>
      have hfree : isFreeSlot es.slots[i] = true := by simpa using List.find?_some hi
      have hnone (j : Fin 4) : ¬ isOpened es.slots[j] = true := by simpa using List.find?_eq_none.1 hno j (mem_bankIndices j)
      refine h.of_unqueued (setSlot_slots ..) (setSlot_queue ..) ?_ ⟨Nat.zero_le _, List.nodup_nil⟩ rfl
        fun _ j hj => absurd hj (hnone j)
      cases hs : es.slots[i] with
      | armed => rw [hs] at hfree; cases hfree
      | _ => rfl
    · exact h

theorem EditOk.addEdit (h : EditOk es) (rt : RouteTable) (slot : Byte) (f : EditFields) : EditOk (addEdit rt es slot f).1 := by
  unfold Machine.addEdit
  split
  · exact h
  · next i _ =>
    split
    · next list hs =>
      have hlist : ListOk list := by
        have := h.slots i
        rwa [hs] at this
      split
      · exact h
      · next e he =>
        exact h.of_unqueued (setSlot_slots ..) (setSlot_queue ..) (by rw [hs]; rfl) (hlist.append he) rfl
          fun _ j hj => h.oneOpen j i hj (by rw [hs]; rfl)
    all_goals exact h

theorem EditOk.armSlot (h : EditOk es) {list : List ListedEdit} (hs : es.slots[i] = .opened list) (hne : list ≠ []) (m : BatchMode)
    {t : Timing} (ht : TimingOk t) : EditOk (armSlot es i list m t) := by
  have hlist : ListOk list := by
    have := h.slots i
    rwa [hs] at this
  have hi : i ∉ es.queue := by
    rw [h.queued, hs]
    nofun
  refine h.of_slot (armSlot_slots ..) ⟨hne, hlist, ht⟩ (fun j => ?_) ?_ nofun
  · rw [armSlot_queue, List.mem_append, List.mem_singleton]
    by_cases hj : j = i
    · simp [hj, isArmed]
    · simp [hj]
  · rw [armSlot_queue]
    exact List.nodup_append.2 ⟨h.once, List.nodup_singleton _, fun a ha b hb => by
      rw [List.mem_singleton.1 hb]
      rintro rfl
      exact hi ha⟩

theorem EditOk.armBatch (h : EditOk es) (slot timing frames mode : Byte) : EditOk (armBatch es slot timing frames mode).1 := by
  unfold Machine.armBatch
  split
  · exact h
  · split
    · next list hs =>
      split
      · next t m ht _ =>
        split
        · exact h
        · next hne => exact h.armSlot hs (by simpa using hne) m (decodeTiming_timingOk ht)
      · exact h
    all_goals exact h

theorem EditOk.releaseBatch (h : EditOk es) (slot : Byte) : EditOk (releaseBatch es slot).1 := by
  unfold Machine.releaseBatch
  split
  · exact h
  · split
    · next hs => exact h.free_setSlot (by rw [hs]; rfl)
    · next hs => exact h.free_setSlot (by rw [hs]; rfl)
    all_goals exact h

theorem EditOk.cancelBatch (h : EditOk es) (slot : Byte) : EditOk (cancelBatch es slot).1 := by
  unfold Machine.cancelBatch
  split
  · exact h
  · split
    · next hs => exact h.free_setSlot (by rw [hs]; rfl)
    · exact h.of_dequeued (freeSlot_slots ..) (freeSlot_queue ..) trivial rfl rfl
    all_goals exact h

/-! ## Switch points, CLEAR_ALL, due batches -/

theorem EditOk.switchPoint (h : EditOk es) (src : TimingSource) : EditOk (switchPoint src es) := by
  refine h.of_rewritten (switchPoint_queue ..) fun j => ?_
  have hj := h.slots j
  rw [switchPoint_slots, show (bankMap (countSlot src) es.slots)[j] = countSlot src es.slots[j] from bankMap_get _ _ _ _]
  cases hs : es.slots[j] with
  | armed edits m t a =>
    rw [hs] at hj
    obtain ⟨hne, hl, ht⟩ := hj
    dsimp only [countSlot]
    split
    · exact ⟨⟨hne, hl, ht.count⟩, rfl, rfl⟩
    · exact ⟨⟨hne, hl, ht⟩, rfl, rfl⟩
  | _ =>
    rw [hs] at hj
    exact ⟨hj, rfl, rfl⟩

theorem EditOk.lineSwitchPoint (h : EditOk es) (n : Fin 8) (line : Nat) (lane : Lane) : EditOk (lineSwitchPoint n line lane es) := by
  unfold Machine.lineSwitchPoint
  split
  · exact h.switchPoint _
  · exact h

theorem EditOk.becomeDue (h : EditOk es) (i : Fin 4) : EditOk { es with slots := bankModify es.slots i becomeDue } := by
  refine h.of_rewritten rfl fun j => ?_
  have hj := h.slots j
  by_cases hji : j = i
  · subst hji
    rw [show (bankModify es.slots j Machine.becomeDue)[j] = Machine.becomeDue es.slots[j] from bankModify_get_self _ _ _]
    cases hs : es.slots[j] with
    | armed edits m t a =>
      rw [hs] at hj
      obtain ⟨hne, hl, ht⟩ := hj
      dsimp only [Machine.becomeDue]
      split
      · exact ⟨⟨hne, hl, ht.count⟩, rfl, rfl⟩
      · exact ⟨⟨hne, hl, ht⟩, rfl, rfl⟩
    | _ =>
      rw [hs] at hj
      exact ⟨hj, rfl, rfl⟩
  · rw [bankModify_other _ _ hji]
    exact ⟨hj, rfl, rfl⟩

theorem EditOk.carryOutClearAll (h : EditOk es) (rt : RouteTable) : EditOk (carryOutClearAll rt es).2 := by
  unfold Machine.carryOutClearAll
  split
  · exact h
  · have hslot (j : Fin 4) : (clearBatches es).slots[j] = clearBatchSlot es.slots[j] := bankMap_get _ _ _ _
    have hcleared (j : Fin 4) : BatchSlotOk (clearBatches es).slots[j] ∧ isArmed (clearBatches es).slots[j] = false ∧
        isOpened (clearBatches es).slots[j] = false := by
      rw [hslot]
      have hj := h.slots j
      cases hs : es.slots[j] with
      | done r =>
        rw [hs] at hj
        exact ⟨hj, rfl, rfl⟩
      | _ => exact ⟨trivial, rfl, rfl⟩
    refine ⟨fun j => (hcleared j).1, fun j => ?_, List.nodup_nil, fun j k hj => ?_⟩
    · rw [(hcleared j).2.1]
      exact iff_of_false List.not_mem_nil nofun
    · rw [(hcleared j).2.2] at hj
      cases hj

theorem EditOk.applySlot {w : RouteTable × EditStage} (h : EditOk w.2) (i : Fin 4) : EditOk (applySlot w i).2 := by
  cases hd : isDue w.2.slots[i] with
  | false => rw [applySlot_not_due hd]; exact h
  | true =>
    obtain ⟨edits, m, t, a, hs, ht⟩ := isDue_iff.1 hd
    have hedits := h.slots i
    rw [hs] at hedits
    obtain ⟨hne, ⟨hlen, -⟩, -⟩ := hedits
    rw [applySlot_due hs ht]
    refine h.of_dequeued rfl rfl ⟨?_, ?_⟩ rfl rfl
    · rw [applyBatch_length]
      exact List.length_pos_iff.2 hne
    · rw [applyBatch_length]
      exact hlen

theorem EditOk.applyDue (h : EditOk es) (rt : RouteTable) : EditOk (applyDue rt es).2 := by
  unfold Machine.applyDue
  generalize es.queue = is
  generalize hw : (rt, es) = w
  have hw2 : EditOk w.2 := by rw [← hw]; exact h
  clear hw
  induction is generalizing w with
  | nil => exact hw2
  | cons i is ih => exact ih _ (hw2.applySlot i)

theorem EditOk.routeTick (h : EditOk es) (sources : Vector Source 192) (rt : RouteTable) : EditOk (routeTick sources rt es).2 := by
  have hdue := (h.carryOutClearAll rt).applyDue (Machine.carryOutClearAll rt es).1
  simpa only [Machine.routeTick] using hdue

theorem editOk_reset : EditOk resetEdit := by
  have hfree (j : Fin 4) : resetEdit.slots[j] = .free := by simp [resetEdit]
  refine ⟨fun j => ?_, fun j => ?_, List.nodup_nil, fun j k hj => ?_⟩
  · rw [hfree]; trivial
  · rw [hfree]; exact iff_of_false List.not_mem_nil nofun
  · rw [hfree] at hj; cases hj

end

end Sys2Proof.Machine
end

section
/-!
The Source Monitor and the desk input ports stay sound together (R94 to R106, R185): a source with the port that feeds it, through arrivals,
the work of a tick, the QUIET assessment and the requests.
-/
namespace Sys2Proof.Machine

/-! ## A source by itself -/

section
variable {src : Source} {st : MonitorSettings}

theorem satAdd_le (counter n : Nat) : satAdd counter n ≤ 65535 := min_le_right _ _

/-- A loss timer runs in no state but STARVED (R102). -/
theorem SourceOk.timer_stopped (h : SourceOk src) (hs : src.state ≠ .starved) : src.timer = none := by
  have ht := h.timer
  unfold TimerOk at ht
  cases hc : src.timer with
  | none => rfl
  | some n =>
    rw [hc] at ht
    exact absurd ht.1 hs

theorem timerOk_stopped (h : src.timer = none) : TimerOk src := by
  rw [TimerOk, h]
  trivial

/-- An entry that joins leaves a source sound (R96). -/
theorem SourceOk.joinFifo (h : SourceOk src) (hi : src.state ≠ .idle) (e : Arrival) : SourceOk (joinFifo src e) := by
  rcases joinFifo_cases src e with ⟨hl, he⟩ | ⟨-, he⟩
  · rw [he]
    refine ⟨?_, fun hs => absurd hs hi, h.ring, h.timer, h.quiet, h.count, h.underruns, h.overruns, h.meter⟩
    simpa using hl
  · rw [he]
    exact ⟨h.fifo, h.empty, h.ring, h.timer, h.quiet, h.count, h.underruns, satAdd_le _ _, h.meter⟩

/-- An IDLE source that takes its first entry is PRIMING (R97). -/
theorem SourceOk.primes (h : SourceOk src) (hi : src.state = .idle) : SourceOk { src with state := .priming } :=
  ⟨h.fifo, nofun, h.ring, timerOk_stopped (h.timer_stopped (by rw [hi]; nofun)), fun _ => h.quiet (by rw [hi]; nofun), h.count,
    h.underruns, h.overruns, h.meter⟩

/-- An arrival joins a FIFO, or finds an IDLE source: a sample makes it PRIMING, a close mark is nothing (R97). -/
theorem arrive_cases (src : Source) (e : Arrival) :
    (src.state = .idle ∧ e = .closeMark ∧ arrive src e = src) ∨
      (src.state = .idle ∧ e ≠ .closeMark ∧ arrive src e = joinFifo { src with state := .priming } e) ∨
      (src.state ≠ .idle ∧ arrive src e = joinFifo src e) := by
  cases hs : src.state with
  | idle =>
    cases e with
    | closeMark => exact .inl ⟨rfl, rfl, by simp only [arrive, hs]⟩
    | sample x =>
      refine .inr (.inl ⟨rfl, nofun, ?_⟩)
      simp only [arrive, hs, joinFifo]
      split <;> rfl
  | _ => exact .inr (.inr ⟨nofun, by simp only [arrive, hs]⟩)

theorem SourceOk.arrive (h : SourceOk src) (e : Arrival) : SourceOk (arrive src e) := by
  rcases arrive_cases src e with ⟨-, -, he⟩ | ⟨hi, -, he⟩ | ⟨hi, he⟩
  · rw [he]; exact h
  · rw [he]; exact (h.primes hi).joinFifo nofun e
  · rw [he]; exact h.joinFifo hi e

/-- A FIFO without close marks gets one by the arrival of a close mark alone. -/
theorem arrive_no_mark (hc : .closeMark ∉ src.fifo) {e : Arrival} (he : e ≠ .closeMark) : .closeMark ∉ (arrive src e).fifo := by
  have hjoin (s : Source) (hs : .closeMark ∉ s.fifo) : .closeMark ∉ (joinFifo s e).fifo := by
    rcases joinFifo_cases s e with ⟨-, hj⟩ | ⟨-, hj⟩
    · rw [hj]
      simpa [hs] using he.symm
    · rw [hj]; exact hs
  rcases arrive_cases src e with ⟨-, -, ha⟩ | ⟨-, -, ha⟩ | ⟨-, ha⟩
  · rw [ha]; exact hc
  · rw [ha]; exact hjoin { src with state := .priming } hc
  · rw [ha]; exact hjoin src hc

/-! ## The work of a tick -/

/-- What a source's work makes of its ring and its meter is sound (R90, R98). -/
theorem SourceOk.work_writes (h : SourceOk src) (st : MonitorSettings) :
    RingOk (sourceWork st src).source.ring ∧ MeterOk (sourceWork st src).source.meter := by
  obtain ⟨x, src', hw, -, hm, -⟩ := sourceWork_writes st src
  rw [hw]
  exact ⟨writeRing_form x src'.ring, (hm ▸ h.meter).take x⟩

/-- A source's work takes entries from the old end of its FIFO and adds none (R98 to R100). -/
theorem sourceWork_fifo (st : MonitorSettings) (src : Source) : (sourceWork st src).source.fifo <:+ src.fifo := by
  have w := sourceWork_worked st src
  rcases source_position src with ⟨ht, x, rest, hf⟩ | ⟨hr, hf⟩ | ⟨he, before, rest, hf, hb⟩ | ⟨ht, he⟩
  · rw [(w.plays x rest ht hf).2, hf]
    exact List.suffix_cons _ _
  · rw [w.starts hr hf]
  · rw [w.ends before rest he hf hb]
    exact ⟨before ++ [.closeMark], by simp [hf]⟩
  · rw [(w.rests ht he).1]

/-- An IDLE source stays IDLE in its work (R98). -/
theorem sourceWork_idle (st : MonitorSettings) (h : src.state = .idle) : (sourceWork st src).source.state = .idle := by
  rw [sourceWork_waits (by rw [h]; nofun) fun hw => by rw [isWaiting, h] at hw; cases hw]
  simp only [waitWork, h, writeSample_state]

theorem SourceOk.work (h : SourceOk src) (hst : SettingsOk st) : SourceOk (sourceWork st src).source := by
  have w := sourceWork_worked st src
  obtain ⟨hring, hmeter⟩ := h.work_writes st
  have hfifo : (sourceWork st src).source.fifo.length ≤ Config.fifoDepth := (sourceWork_fifo st src).length_le.trans h.fifo
  have htimer (hs : src.state = .running) : src.timer = none := h.timer_stopped (by rw [hs]; nofun)
  generalize (sourceWork st src).source = src' at w hring hmeter hfifo ⊢
  rcases source_position src with ⟨ht, x, rest, hf⟩ | ⟨hr, hf⟩ | ⟨he, before, rest, hf, hb⟩ | ⟨ht, he⟩
  · have hsrc := (w.plays x rest ht hf).2
    rw [hsrc] at hfifo ⊢
    refine ⟨hfifo, nofun, hring, timerOk_stopped ?_, fun hn => absurd rfl hn, h.count, h.underruns, h.overruns, hmeter⟩
    dsimp only
    split
    · next hs => exact htimer hs
    · rfl
  · have hsrc := w.starts hr hf
    rw [hsrc] at hfifo ⊢
    refine ⟨hfifo, nofun, hring, ?_, fun _ => ⟨rfl, rfl⟩, Nat.zero_le _, min_le_right _ _, h.overruns, hmeter⟩
    unfold TimerOk
    dsimp only
    split
    · trivial
    · next n hn =>
      rw [Option.ite_none_left_eq_some, Option.some.injEq] at hn
      obtain ⟨hpos, rfl⟩ := hn
      have hmax := hst.1
      exact ⟨rfl, by omega, by omega⟩
  · have hsrc := w.ends before rest he hf hb
    rw [hsrc] at hfifo ⊢
    refine ⟨hfifo, fun hs => ?_, hring, timerOk_stopped ?_, fun _ => ?_, ?_, h.underruns, h.overruns, hmeter⟩
    · by_contra hne
      dsimp only at hs hne
      rw [if_neg hne] at hs
      cases hs
    · dsimp only
      split
      · next hs => exact htimer hs
      · rfl
    · dsimp only
      split
      · exact ⟨rfl, rfl⟩
      · next ht => exact h.quiet fun hr => ht (.inl hr)
    · dsimp only
      split
      · exact Nat.zero_le _
      · exact h.count
  · have hr : src.state ≠ .running := fun hr => ht (.inl hr)
    by_cases hs : src.state = .starved
    · have hi : src.state ≠ .idle := by rw [hs]; nofun
      obtain ⟨hnone, hruns, hends⟩ := w.starves ht he hs
      have hok := h.timer
      unfold TimerOk at hok
      cases hc : src.timer with
      | none =>
        rw [hnone hc] at hfifo ⊢
        exact ⟨hfifo, fun hs' => absurd hs' hi, hring, timerOk_stopped hc, h.quiet, h.count, min_le_right _ _, h.overruns, hmeter⟩
      | some c =>
        rw [hc] at hok
        by_cases hle : c ≤ 1
        · rw [hends c hc hle] at hfifo ⊢
          exact ⟨hfifo, nofun, hring, timerOk_stopped rfl, fun _ => h.quiet hr, h.count, min_le_right _ _, h.overruns, hmeter⟩
        · rw [hruns c hc (by omega)] at hfifo ⊢
          refine ⟨hfifo, fun hs' => absurd hs' hi, hring, ⟨hs, ?_, ?_⟩, h.quiet, h.count, min_le_right _ _, h.overruns, hmeter⟩
          · omega
          · have := hok.2.2
            omega
    · rw [w.waits ht he hs] at hfifo ⊢
      exact ⟨hfifo, h.empty, hring, h.timer, h.quiet, h.count, h.underruns, h.overruns, hmeter⟩

/-! ## QUIET, restarts, counters -/

/-- The QUIET assessment touches no more than the quiet count, QUIET and the change flag, of a RUNNING source (R94). -/
theorem assessQuiet_frame (st : MonitorSettings) (src : Source) :
    (src.state ≠ .running ∧ (assessQuiet st src).1 = src) ∨
      src.state = .running ∧ (assessQuiet st src).1 = { src with
        quietCount := (assessQuiet st src).1.quietCount, quiet := (assessQuiet st src).1.quiet
        changeFlag := (assessQuiet st src).1.changeFlag } := by
  by_cases hr : src.state = .running
  · exact .inr ⟨hr, by rw [assessQuiet_eq]⟩
  · exact .inl ⟨hr, by rw [assessQuiet_other hr]⟩

theorem SourceOk.assessQuiet (h : SourceOk src) (st : MonitorSettings) : SourceOk (assessQuiet st src).1 := by
  have hcount : (Machine.assessQuiet st src).1.quietCount ≤ 255 := by
    rw [assessQuiet_eq]
    dsimp only
    split
    · exact h.count
    · split
      · exact min_le_right _ _
      · exact Nat.zero_le _
  rcases assessQuiet_frame st src with ⟨-, he⟩ | ⟨hr, he⟩
  · rw [he]; exact h
  · rw [he]
    exact ⟨h.fifo, h.empty, h.ring, h.timer, fun hn => absurd hr hn, hcount, h.underruns, h.overruns, h.meter⟩

theorem assessQuiet_state (st : MonitorSettings) (src : Source) :
    (assessQuiet st src).1.state = src.state ∧ (assessQuiet st src).1.fifo = src.fifo := by
  rcases assessQuiet_frame st src with ⟨-, he⟩ | ⟨-, he⟩ <;> rw [he] <;> exact ⟨rfl, rfl⟩

theorem SourceOk.makeIdle (h : SourceOk src) : SourceOk (makeIdle src) :=
  ⟨Nat.zero_le _, fun _ => rfl, h.ring, timerOk_stopped rfl, fun _ => ⟨rfl, rfl⟩, Nat.zero_le _, h.underruns, h.overruns, h.meter⟩

end

/-! ## A source with the port that feeds it -/

/-- A sound source: one of a desk port holds no close mark and is IDLE while the port is disabled (R96, R104). -/
structure SourceSound (d : Desk) (n : Fin 192) (src : Source) : Prop where
  ok   : SourceOk src
  desk : 128 ≤ n.val → .closeMark ∉ src.fifo
  idle : ∀ p : Fin 4, deskPortOf n = some p → d.ins[p].enabled = false → src.state = .idle

section
variable {d d' : Desk} {n : Fin 192} {src src' : Source}

theorem SourceSound.of_same (h : SourceSound d n src) (hok : SourceOk src') (hs : src'.state = src.state)
    (hf : src'.fifo = src.fifo) : SourceSound d n src' :=
  ⟨hok, hf ▸ h.desk, hs ▸ h.idle⟩

/-- Whether a port is enabled is all that a source depends on. -/
theorem SourceSound.of_enabled (h : SourceSound d n src) (he : ∀ p : Fin 4, d'.ins[p].enabled = d.ins[p].enabled) :
    SourceSound d' n src :=
  ⟨h.ok, h.desk, fun p hp hoff => h.idle p hp ((he p).symm.trans hoff)⟩

theorem SourceSound.work (h : SourceSound d n src) {st : MonitorSettings} (hst : SettingsOk st) :
    SourceSound d n (sourceWork st src).source :=
  ⟨h.ok.work hst, fun hn hm => h.desk hn ((sourceWork_fifo st src).subset hm), fun p hp hoff => sourceWork_idle st (h.idle p hp hoff)⟩

theorem SourceSound.makeIdle (h : SourceSound d n src) : SourceSound d' n (makeIdle src) :=
  ⟨h.ok.makeIdle, fun _ => List.not_mem_nil, fun _ _ _ => rfl⟩

theorem SourceSound.assessQuiet (h : SourceSound d n src) (st : MonitorSettings) : SourceSound d n (assessQuiet st src).1 :=
  h.of_same (h.ok.assessQuiet st) (assessQuiet_state st src).1 (assessQuiet_state st src).2

/-- A pulse that closes a window: the meter latches, then QUIET is assessed (R91, R94). -/
theorem SourceSound.sourceFrame (h : SourceSound d n src) (st : MonitorSettings) : SourceSound d n (sourceFrame st src).1 := by
  have hok := h.ok
  have hlatched : SourceSound d n { src with meter := meterLatch src.meter } :=
    h.of_same ⟨hok.fifo, hok.empty, hok.ring, hok.timer, hok.quiet, hok.count, hok.underruns, hok.overruns, hok.meter.latch⟩ rfl rfl
  exact hlatched.assessQuiet st

/-- Any entry may arrive at a source of a lane (R97). -/
theorem SourceSound.arriveAll_lane (h : SourceSound d n src) (hn : n.val < 128) (es : List Arrival) :
    SourceSound d n (arriveAll src es) := by
  have hport : deskPortOf n = none := deskPortOf_eq_none.2 hn
  have hok : SourceOk (arriveAll src es) := by
    have hsrc := h.ok
    clear h
    induction es generalizing src with
    | nil => exact hsrc
    | cons e es ih => exact ih (hsrc.arrive e)
  exact ⟨hok, fun hge => absurd hge hn.not_ge, fun p hp => by rw [hport] at hp; cases hp⟩

/-- The push of a desk port at one of its sources: none from a disabled port (R104, R105). -/
theorem SourceSound.pushed (h : SourceSound d n src) {p : Fin 4} (hp : deskPortOf n = some p) (hin : DeskInOk d.ins[p])
    (arrived : List Sample) (slot : Nat) : SourceSound d n (arriveAll src (deskPushed d.ins[p] arrived slot)) := by
  rcases deskPushed_cases d.ins[p] arrived slot with ⟨-, hnone⟩ | ⟨hs, y, hy⟩
  · rw [hnone]; exact h
  · have hon : d.ins[p].enabled = true := by
      unfold DeskInOk at hin
      cases hshift : d.ins[p].shift with
      | nothing => exact absurd hshift hs
      | shifting => rw [hshift] at hin; exact hin
      | held frame => rw [hshift] at hin; exact hin.1
    rw [hy]
    show SourceSound d n (arrive src (.sample y))
    refine ⟨h.ok.arrive _, fun hn => arrive_no_mark (h.desk hn) nofun, fun q hq hoff => ?_⟩
    obtain rfl : q = p := Option.some.inj (hq.symm.trans hp)
    rw [hon] at hoff
    cases hoff

end

/-! ## The Source Monitor and the desk ports -/

/-- Every source sound with its port, the settings and the input ports sound. -/
structure InputOk (d : Desk) (m : SourceMonitor) : Prop where
  sources  : ∀ n : Fin 192, SourceSound d n m.sources[n]
  settings : SettingsOk m.settings
  ins      : ∀ p : Fin 4, DeskInOk d.ins[p]

section
variable {d d' : Desk} {m m' : SourceMonitor}

theorem inputOk_iff : InputOk d m ↔ MonitorOk m ∧ DeskOk d m := by
  constructor
  · intro h
    refine ⟨⟨fun n => (h.sources n).ok, fun n hn => ?_, h.settings⟩, h.ins, fun n p => (h.sources n).idle p⟩
    rw [← Bool.not_eq_true, holdsClose_iff]
    exact (h.sources n).desk hn
  · rintro ⟨hm, hd⟩
    refine ⟨fun n => ⟨hm.sources n, fun hn => ?_, hd.idle n⟩, hm.settings, hd.ins⟩
    rw [← holdsClose_iff, hm.desk n hn]
    nofun

/-- The input ports after a tick: an enabled one begins to shift in a frame (R104). -/
theorem DeskInOk.begin (port : DeskIn) : DeskInOk (beginInFrame port) := by
  unfold DeskInOk beginInFrame
  cases he : port.enabled with
  | false => trivial
  | true => exact rfl

theorem InputOk.tick {desk : List DeskArrival} {s : State} (h : InputOk s.desk s.monitor) (hwf : wellFormedDesk desk = true) :
    InputOk (Machine.tick desk s).desk (Machine.tick desk s).monitor := by
  have hport (p : Fin 4) : (Machine.tick desk s).desk.ins[p] = beginInFrame s.desk.ins[p] := by
    rw [tick_desk]
    exact bankMap_get _ _ _ _
  have hst := h.settings
  refine ⟨fun n => .of_enabled (d := s.desk) ?_ fun p => by rw [hport]; rfl, by rw [tick_monitor]; exact hst, fun p => by
    rw [hport]; exact .begin _⟩
  have hn := h.sources n
  rcases source_of_lane_or_desk hwf n with hlane | ⟨p, a, hp, ha⟩
  · rw [tick_laneSource hlane]
    exact hn.work hst
  · cases hfirst : a.pushFirst with
    | true =>
      obtain ⟨hwork, hsrc⟩ := tick_deskSource_pushFirst (s := s) hp ha hfirst
      rw [hsrc, hwork]
      exact (hn.pushed hp (h.ins p) _ _).work hst
    | false =>
      obtain ⟨hwork, hsrc⟩ := tick_deskSource_workFirst (s := s) hp ha hfirst
      rw [hsrc, hwork]
      exact (hn.work hst).pushed hp (h.ins p) _ _

/-- One source replaced. -/
theorem InputOk.set_source (h : InputOk d m) {n : Fin 192} {src : Source} (hs : SourceSound d n src) :
    InputOk d { m with sources := bankSet m.sources n src } := by
  refine ⟨fun k => ?_, h.settings, h.ins⟩
  by_cases hk : k = n
  · subst hk
    have hget : (bankSet m.sources k src)[k] = src := bankSet_get_self _ _ _
    simp only [hget]
    exact hs
  · have hget : (bankSet m.sources n src)[k] = m.sources[k] := bankSet_other _ _ hk
    simp only [hget]
    exact h.sources k

/-- Every source rewritten by itself. -/
theorem InputOk.map_sources (h : InputOk d m) (hs : ∀ n : Fin 192, SourceSound d n m'.sources[n])
    (hset : m'.settings = m.settings) : InputOk d m' :=
  ⟨hs, hset ▸ h.settings, h.ins⟩

theorem InputOk.pushPacket (h : InputOk d m) (n j : Fin 8) (c : Content) :
    InputOk d { m with sources := pushPacket m.sources n j c } := by
  have hA : (trackA n j).val < 128 := by simp only [trackA]; omega
  have hB : (trackB n j).val < 128 := by simp only [trackB]; omega
  have ha := h.set_source ((h.sources (trackA n j)).arriveAll_lane hA (arrivalsA c))
  exact ha.set_source ((ha.sources (trackB n j)).arriveAll_lane hB (arrivalsB c))

theorem InputOk.receiveLine (h : InputOk d m) (n : Fin 8) (lane : Lane) (words : List Word) :
    InputOk d { m with sources := (receiveLine n lane m.sources words).sources } := by
  have hfold (packets : List (List Word)) (w : Reception) (hw : InputOk d { m with sources := w.sources }) :
      InputOk d { m with sources := (packets.foldl (receivePacket n) w).sources } := by
    induction packets generalizing w with
    | nil => exact hw
    | cons p ps ih =>
      refine ih _ ?_
      unfold receivePacket
      cases classify p with
      | good j seq c => exact hw.pushPacket n j c
      | _ => exact hw
  exact hfold _ _ h

theorem InputOk.lineEvent {s : State} (h : InputOk s.desk s.monitor) (n : Fin 8) (line : Nat) (words : List Word) :
    InputOk (lineEvent n line words s).desk (lineEvent n line words s).monitor := by
  rw [lineEvent_desk, lineEvent_monitor]
  exact h.receiveLine n _ words

theorem InputOk.closeWindow {s : State} (h : InputOk s.desk s.monitor) : InputOk (closeWindow s).desk (closeWindow s).monitor := by
  unfold Machine.closeWindow
  split
  · refine h.map_sources (fun n => ?_) rfl
    have hget : (bankMap (·.1) (frameWorks s.monitor))[n] = (sourceFrame s.monitor.settings s.monitor.sources[n]).1 := by
      simp [frameWorks]
    rw [hget]
    exact (h.sources n).sourceFrame _
  · exact h

theorem InputOk.workOne {s : State} (h : InputOk s.desk s.monitor) (n : Fin 192) :
    InputOk (workOne n s).desk (workOne n s).monitor := by
  simp only [Machine.workOne]
  exact h.set_source ((h.sources n).work h.settings)

theorem InputOk.enterQuiet {s : State} (h : InputOk s.desk s.monitor) (n : Fin 192) :
    InputOk (enterQuiet n s).desk (enterQuiet n s).monitor := by
  unfold Machine.enterQuiet
  dsimp only
  split
  · exact h.set_source ((h.sources n).assessQuiet _)
  · exact h

theorem InputOk.idleLaneSources (h : InputOk d m) (n : Fin 8) : InputOk d (idleLaneSources m n) := by
  refine h.map_sources (fun i => ?_) (idleLaneSources_settings m n)
  have hget : (Machine.idleLaneSources m n).sources[i] = if ofLane n i then makeIdle m.sources[i] else m.sources[i] :=
    bankMapIdx_get _ _ _ _
  rw [hget]
  split
  · exact (h.sources i).makeIdle
  · exact h.sources i

theorem InputOk.readSource (h : InputOk d m) (source : Byte) (clear : Bool) : InputOk d (readSource m source clear).1 := by
  unfold Machine.readSource
  split
  · exact h
  · next n _ =>
    dsimp only
    split
    · have hok := (h.sources n).ok
      exact h.set_source ((h.sources n).of_same (src' := clearSourceCounters m.sources[n])
        ⟨hok.fifo, hok.empty, hok.ring, hok.timer, hok.quiet, hok.count, Nat.zero_le _, Nat.zero_le _, hok.meter⟩ rfl rfl)
    · exact h

theorem InputOk.setMonitor (h : InputOk d m) (l q f le qe : Byte) : InputOk d (setMonitor m l q f le qe).1 := by
  unfold Machine.setMonitor
  split
  · next st hst =>
    refine ⟨h.sources, ?_, h.ins⟩
    unfold decodeSettings at hst
    split at hst
    · split at hst
      · next hq =>
        cases hst
        exact ⟨by have := l.isLt; dsimp only; omega, hq.1, hq.2.1, hq.2.2, by have := f.isLt; dsimp only; omega⟩
      · cases hst
    · cases hst
  · exact h

/-- Change flags and change enables are no part of what a sound source is about. -/
theorem SourceSound.with_changes {n : Fin 192} {src : Source} (h : SourceSound d n src) (flag enable : Bool) :
    SourceSound d n { src with changeFlag := flag, changeEnable := enable } :=
  h.of_same ⟨h.ok.fifo, h.ok.empty, h.ok.ring, h.ok.timer, h.ok.quiet, h.ok.count, h.ok.underruns, h.ok.overruns, h.ok.meter⟩ rfl rfl

theorem InputOk.setEnables (h : InputOk d m) (enables : BitVec 192) : InputOk d (setEnables m enables) := by
  refine h.map_sources (fun n => ?_) (setEnables_settings m enables)
  rw [setEnables_source]
  exact (h.sources n).with_changes _ _

theorem InputOk.ackSources (h : InputOk d m) (count : Byte) (list : List Byte) : InputOk d (ackSources m count list).1 := by
  unfold Machine.ackSources
  split
  · refine h.map_sources (fun n => ?_) (clearChangeFlags_settings m list)
    rw [clearChangeFlags_source]
    exact (h.sources n).with_changes _ _
  · exact h

/-! ## The desk ports -/

theorem InputOk.setDeskIn {s : State} (h : InputOk s.desk s.monitor) (p : Fin 4) (on : Bool) :
    InputOk (setDeskIn s p on).desk (setDeskIn s p on).monitor := by
  refine ⟨fun n => ?_, by rw [setDeskIn_settings]; exact h.settings, fun k => ?_⟩
  · rw [setDeskIn_source]
    split
    · exact (h.sources n).makeIdle
    · next hkept =>
      refine ⟨(h.sources n).ok, (h.sources n).desk, fun k hk hoff => ?_⟩
      by_cases hkp : k = p
      · subst hkp
        rw [setDeskIn_port_self, enableIn_enabled] at hoff
        obtain ⟨hge, hport⟩ := deskPortOf_eq_some.1 hk
        refine (h.sources n).idle k hk ?_
        by_contra hon
        exact hkept ⟨by simpa using hon, hoff, hge, hport⟩
      · rw [setDeskIn_port_ne s on hkp] at hoff
        exact (h.sources n).idle k hk hoff
  · by_cases hkp : k = p
    · subst hkp
      rw [setDeskIn_port_self]
      by_cases hsame : s.desk.ins[k].enabled = on
      · rw [enableIn_same hsame]
        exact h.ins k
      · rw [DeskInOk, enableIn_changed hsame]
        trivial
    · rw [setDeskIn_port_ne s on hkp]
      exact h.ins k

/-- Output ports are no part of what the input side is about. -/
theorem InputOk.setDeskOut {s : State} (h : InputOk s.desk s.monitor) (p : Fin 4) (on : Bool) :
    InputOk (setDeskOut s p on).desk (setDeskOut s p on).monitor :=
  ⟨fun n => (h.sources n).of_enabled fun _ => rfl, h.settings, h.ins⟩

theorem InputOk.setDesk {s : State} (h : InputOk s.desk s.monitor) (dir port : Byte) (on : Bool) :
    InputOk (setDesk s dir port on).1.desk (setDesk s dir port on).1.monitor := by
  unfold Machine.setDesk
  split
  · exact h
  · split
    · exact h.setDeskIn _ on
    · split
      · exact h.setDeskOut _ on
      · exact h

theorem InputOk.completeDeskFrames (h : InputOk d m) {frames : List (List Sample)} (hwf : wellFormedFrames frames = true) :
    InputOk (completeDeskFrames frames d) m := by
  have hport (p : Fin 4) : (Machine.completeDeskFrames frames d).ins[p] = d.ins[p] ∨
      d.ins[p].shift = .shifting ∧
        (Machine.completeDeskFrames frames d).ins[p] = { d.ins[p] with shift := .held (frames.getD p.val []) } := by
    unfold Machine.completeDeskFrames
    split
    · simp only [Fin.getElem_fin, bankMapIdx_get]
      cases hs : d.ins[p.val].shift with
      | shifting => exact .inr ⟨rfl, rfl⟩
      | _ => exact .inl rfl
    · exact .inl rfl
  refine ⟨fun n => (h.sources n).of_enabled fun p => ?_, h.settings, fun p => ?_⟩
  · rcases hport p with hp | ⟨-, hp⟩ <;> rw [hp]
  · rcases hport p with hp | ⟨hs, hp⟩
    · rw [hp]; exact h.ins p
    · have hin := h.ins p
      rw [DeskInOk, hs] at hin
      have hlen := wellFormedFrames_length hwf
      rw [hp]
      refine ⟨hin, ?_⟩
      rw [List.getD_eq_getElem _ _ (by omega)]
      have hall := (Bool.and_eq_true_iff.1 hwf).2
      exact beq_iff_eq.1 (List.all_eq_true.1 hall _ (List.getElem_mem _))

theorem inputOk_reset : InputOk resetDesk ⟨Vector.replicate 192 resetSource, resetSettings⟩ := by
  have hsource : SourceOk resetSource :=
    ⟨Nat.zero_le _, fun _ => rfl, ⟨Nat.zero_le _, nofun⟩, trivial, fun _ => ⟨rfl, rfl⟩, Nat.zero_le _, Nat.zero_le _, Nat.zero_le _,
      Nat.zero_le _, Nat.zero_le _, rfl⟩
  refine ⟨fun n => ?_, by decide, fun p => ?_⟩
  · simp only [Fin.getElem_fin, Vector.getElem_replicate]
    exact ⟨hsource, fun _ => List.not_mem_nil, fun _ _ _ => rfl⟩
  · simp [resetDesk, DeskInOk]

end

end Sys2Proof.Machine
end

section
/-!
The Lane Engines stay sound (R115 to R118, R126 to R131, R134 to R149): a lane through ticks, line events, the turn of a CLOSE, restarts
and the requests.
-/
namespace Sys2Proof.Machine

/-! ## Output bundles (R134 to R136, R145) -/

/-- An item of a bank after one item is rewritten: the rewritten one, or as it was. -/
theorem bankModify_induction {n : Nat} {α : Type} {P : α → Prop} {v : Vector α n} {i : Fin n} {f : α → α}
    (h : ∀ j : Fin n, P v[j]) (hf : P (f v[i])) (j : Fin n) : P (bankModify v i f)[j] := by
  by_cases hj : j = i
  · subst hj
    exact (bankModify_get_self v j f).symm ▸ hf
  · exact (bankModify_other v f hj).symm ▸ h j

theorem OutBundleOk.pushFrame {b : OutBundle} (h : OutBundleOk b) (ha : b.activity = .active) (f : Frame) :
    OutBundleOk (pushFrame b f) := by
  obtain ⟨hlen, -, hover⟩ := h
  have hnever : b.activity ≠ .inactive := by rw [ha]; nofun
  rcases pushFrame_cases b f with ⟨hl, he⟩ | ⟨-, he⟩
  · rw [he]
    exact ⟨by simpa using hl, fun hi => absurd hi hnever, hover⟩
  · rw [he]
    exact ⟨hlen, fun hi => absurd hi hnever, satAdd_le _ _⟩

/-- A bundle that is judged INACTIVE was so before (R135). -/
theorem judgeActivity_inactive {a : Activity} {routed : Bool} (h : judgeActivity a routed = .inactive) : a = .inactive := by
  cases routed with
  | true => cases h
  | false =>
    cases a with
    | inactive => rfl
    | _ => cases h

theorem OutBundleOk.bundleTick {b : OutBundle} (h : OutBundleOk b) (routed : Bool) (f : Frame) :
    OutBundleOk (bundleTick routed f b) := by
  obtain ⟨hlen, hempty, hover⟩ := h
  have hjudged : OutBundleOk { b with activity := judgeActivity b.activity routed } :=
    ⟨hlen, fun hi => hempty (judgeActivity_inactive hi), hover⟩
  unfold Machine.bundleTick
  dsimp only
  split
  · next ha => exact hjudged.pushFrame ha f
  · exact hjudged

/-- A bundle stays sound through a packet granted to it (R145). -/
theorem OutBundleOk.granted {b b' : OutBundle} {j : Fin 8} {free : Nat} {p : List Word} (h : OutBundleOk b)
    (hp : PacketGranted j free b b' p) : OutBundleOk b' := by
  obtain ⟨hlen, hempty, hover⟩ := h
  rcases hp with ⟨-, hnone, -, rfl⟩ | ⟨c, -, -, -, -, -, rfl⟩
  · exact ⟨hlen, fun _ => hnone, hover⟩
  · exact ⟨by rw [List.length_drop]; exact (Nat.sub_le _ _).trans hlen, fun hi => by rw [hempty hi, List.drop_nil], hover⟩

theorem GrantsTo.bundlesOk {old : Vector OutBundle 8} {room : Nat} {js : List (Fin 8)} {w : Arbiter} (hg : GrantsTo old room js w)
    (h : ∀ j : Fin 8, OutBundleOk old[j]) (j : Fin 8) : OutBundleOk w.bundles[j] := by
  by_cases hj : j ∈ js
  · obtain ⟨k, hk⟩ := List.mem_iff_getElem?.1 hj
    have hlt : k < w.packets.length := hg.count ▸ (List.getElem?_eq_some_iff.1 hk).1
    exact (h j).granted (hg.turns k j _ hk (List.getElem?_eq_getElem hlt)).packet
  · rw [hg.others j hj]
    exact h j

/-! ## A lane -/

section
variable {l : Lane}

theorem seqCheck_gap_le {b : InBundle} (h : b.gap ≤ 65535) (c : Byte) : (seqCheck b c).gap ≤ 65535 := by
  unfold seqCheck
  dsimp only
  split
  · exact h
  · split
    · exact h
    · exact satAdd_le _ _

/-- A pending SET_LANE comes into force; the pointer of FIXED mode follows (R131, R148). -/
theorem LaneOk.bringSettings (h : LaneOk l) : LaneOk (bringSettings l) := by
  cases hp : l.pendingSettings with
  | none => rw [bringSettings_none hp]; exact h
  | some st =>
    have hst := h.pending
    rw [hp] at hst
    rw [bringSettings_some hp]
    refine { h with settings := hst, pending := trivial, pointer := fun hfixed => ?_ }
    dsimp only at hfixed ⊢
    split
    · next hsame => exact (h.pointer (hsame.1 ▸ hfixed)).trans hsame.2.symm
    · rfl

theorem LaneOk.atLine (h : LaneOk l) : LaneOk (laneAtLine l) :=
  { h.bringSettings with presence := Nat.zero_lt_succ _ }

theorem LaneOk.presenceTick (h : LaneOk l) : LaneOk (presenceTick l) := by
  cases hp : l.presence with
  | absent => rw [presenceTick_absent hp]; exact h
  | present c =>
    by_cases hc : c + 1 < 240
    · rw [presenceTick_counts hp hc]
      exact { h with presence := hc }
    · rw [presenceTick_ends hp (not_lt.1 hc)]
      exact { h with presence := trivial }

theorem LaneOk.presenceTimeout (h : LaneOk l) : LaneOk (presenceTimeout l) := by
  unfold Machine.presenceTimeout
  split
  · exact h
  · split
    · exact h.presenceTick
    · exact h

theorem LaneOk.laneTick (h : LaneOk l) (rt : RouteTable) (n : Fin 8) : LaneOk (laneTick rt n l) := by
  refine { h.presenceTick with bundles := fun j => ?_ }
  simp only [Machine.laneTick, Fin.getElem_fin, bankMapIdx_get]
  exact (h.bundles j).bundleTick _ _

theorem resetReference_gap (works : Vector SourceWork 192) (n j : Fin 8) (b : InBundle) : (resetReference works n j b).gap = b.gap := by
  unfold resetReference
  split <;> rfl

/-- Sequence references are free (R126, R127). -/
theorem LaneOk.resetReferences (h : LaneOk l) (works : Vector SourceWork 192) (n : Fin 8) : LaneOk (resetReferences works n l) := by
  refine { h with gaps := fun j => ?_ }
  simp only [Machine.resetReferences, Fin.getElem_fin, bankMapIdx_get, resetReference_gap]
  exact h.gaps j

theorem LaneOk.resetReferencesOf (h : LaneOk l) (n : Fin 192) (m : Fin 8) : LaneOk (resetReferencesOf n m l) := by
  refine { h with gaps := fun j => ?_ }
  simp only [Machine.resetReferencesOf, Fin.getElem_fin, bankMapIdx_get, apply_ite InBundle.gap, ite_self]
  exact h.gaps j

theorem LaneOk.receivePacket {w : Reception} (h : LaneOk w.lane) (n : Fin 8) (p : List Word) : LaneOk (receivePacket n w p).lane := by
  obtain ⟨hexcess, htruncated, hcheck, hmalformed⟩ := h.counters
  unfold Machine.receivePacket
  split
  · exact h
  · exact { h with counters := ⟨hexcess, htruncated, satAdd_le _ _, hmalformed⟩ }
  · exact { h with counters := ⟨hexcess, htruncated, hcheck, satAdd_le _ _⟩ }
  · next j seq c _ =>
    have hgap := seqCheck_gap_le (h.gaps j) seq
    exact { h with gaps := bankModify_induction (P := fun b : InBundle => b.gap ≤ 65535) h.gaps hgap }

theorem LaneOk.receivePackets {w : Reception} (h : LaneOk w.lane) (n : Fin 8) (packets : List (List Word)) :
    LaneOk (packets.foldl (Machine.receivePacket n) w).lane := by
  induction packets generalizing w with
  | nil => exact h
  | cons p ps ih => exact ih (h.receivePacket n p)

theorem LaneOk.receiveLine (h : LaneOk l) (n : Fin 8) (sources : Vector Source 192) (words : List Word) :
    LaneOk (receiveLine n l sources words).lane := by
  obtain ⟨-, htruncated, hcheck, hmalformed⟩ := h.counters
  have hbegun : LaneOk { l with excess := satAdd l.excess (words.length - Config.blankingWords) } :=
    { h with counters := ⟨satAdd_le _ _, htruncated, hcheck, hmalformed⟩ }
  have htaken := LaneOk.receivePackets (w := ⟨_, sources, []⟩) hbegun n (parseLine (words.take Config.blankingWords)).1
  obtain ⟨hexcess, -, hcheck', hmalformed'⟩ := htaken.counters
  exact { htaken with counters := ⟨hexcess, satAdd_le _ _, hcheck', hmalformed'⟩ }

theorem nextPointer_fixed (h : l.settings.mode = .fixed) (last : Option (Fin 8)) : nextPointer l last = l.settings.lowest := by
  rw [nextPointer, h]

/-- The output line rebuilt from kept packets that fit (R139, R142 to R147). -/
theorem LaneOk.transmitLine (h : LaneOk l) (line : Nat) {list : List Received} (hfit : packetWords (keptPackets l list) ≤ 64) :
    LaneOk (transmitLine l line list) := by
  obtain ⟨served, rest, -, hg, hbudget, -⟩ := arbitrate_grants (lane := l) rfl rfl rfl (keptPackets l list)
  have hfits := hg.fits
  refine { h with bundles := fun j => ?_, pointer := fun hm => ?_, line := ?_ }
  · rw [transmitLine_outBundles]
    exact hg.bundlesOk h.bundles j
  · rw [transmitLine_pointer]
    exact nextPointer_fixed (l := l) hm _
  · rw [transmitLine_outLine]
    refine ⟨?_, hbudget.trans h.settings.2.2.2⟩
    rw [packetWords_append]
    dsimp only [Config.blankingWords]
    omega

/-- The turn of a drained bundle: four words and one grant of the budget were left (R138; log 16). -/
theorem LaneOk.closeTurn (h : LaneOk l) (j : Fin 8) : LaneOk (closeTurn l j) := by
  rcases closeTurn_cases l j with ⟨-, he⟩ | ⟨o, ho, htakes, he⟩
  · rw [he]; exact h
  · obtain ⟨-, hempty, -, hbudget, hwords⟩ := (takesClose_iff l o j).1 htakes
    obtain ⟨hlen, -, hover⟩ := h.bundles j
    obtain ⟨-, -, -, hmax⟩ := h.settings
    rw [he]
    refine { h with bundles := fun k => ?_, pointer := fun hm => nextPointer_fixed (l := l) hm _, line := ⟨?_, ?_⟩ }
    · by_cases hk : k = j
      · subst hk
        exact (bankSet_get_self l.outBundles k _).symm ▸ ⟨hlen, fun _ => hempty, hover⟩
      · exact (bankSet_other l.outBundles _ hk).symm ▸ h.bundles k
    · rw [packetWords_append, packetWords_cons, packetWords_nil, ownPacket_length]
      exact hwords
    · dsimp only
      omega

theorem LaneOk.clearCounters (h : LaneOk l) : LaneOk (clearLaneCounters l) := by
  refine { h with counters := ?_, gaps := fun j => ?_, bundles := fun j => ?_ }
  · exact ⟨Nat.zero_le _, Nat.zero_le _, Nat.zero_le _, Nat.zero_le _⟩
  · rw [clearLaneCounters_inBundle]
    exact Nat.zero_le _
  · rw [clearLaneCounters_outBundle]
    exact ⟨(h.bundles j).1, (h.bundles j).2.1, Nat.zero_le _⟩

theorem LaneOk.restart (h : LaneOk l) (rt : RouteTable) (n : Fin 8) : LaneOk (restartTransmit rt n (restartReceive l)) := by
  refine { h with counters := ?_, gaps := fun j => ?_, bundles := fun j => ?_, pointer := fun _ => rfl }
  · exact ⟨Nat.zero_le _, Nat.zero_le _, Nat.zero_le _, Nat.zero_le _⟩
  · simp
  · rw [restartTransmit_outBundles]
    simp only [Fin.getElem_fin, bankMapIdx_get]
    exact ⟨Nat.zero_le _, fun _ => rfl, Nat.zero_le _⟩

/-- The settings that a request carries in range are sound (R131). -/
theorem decodeLaneSettings_ok {line : Word} {keep budget mode lowest : Byte} {st : LaneSettings}
    (h : decodeLaneSettings line keep budget mode lowest = some st) : LaneSettingsOk st := by
  unfold decodeLaneSettings at h
  split at h
  · split at h
    · next hrange => cases h; exact hrange
    · cases h
  · cases h

theorem laneOk_reset : LaneOk resetLane := by
  refine ⟨trivial, by decide, trivial, by decide, fun j => ?_, fun j => ?_, nofun, trivial⟩
  · simp [resetLane]
  · simp [resetLane, OutBundleOk]

end

/-! ## The lanes of the part -/

/-- Every lane sound. -/
abbrev LanesOk (lanes : Vector Lane 8) : Prop := ∀ n : Fin 8, LaneOk lanes[n]

section
variable {lanes : Vector Lane 8}

theorem LanesOk.modify (h : LanesOk lanes) {n : Fin 8} {f : Lane → Lane} (hf : LaneOk (f lanes[n])) : LanesOk (bankModify lanes n f) :=
  bankModify_induction (P := LaneOk) h hf

theorem LanesOk.map (h : LanesOk lanes) {f : Fin 8 → Lane → Lane} (hf : ∀ n l, LaneOk l → LaneOk (f n l)) :
    LanesOk (bankMapIdx f lanes) := by
  intro n
  simp only [Fin.getElem_fin, bankMapIdx_get]
  exact hf n _ (h n)

theorem LanesOk.tick {s : State} (h : LanesOk s.lanes) (desk : List DeskArrival) : LanesOk (tick desk s).lanes := by
  rw [tick_lanes]
  exact h.map fun n l hl => (hl.laneTick s.route n).resetReferences _ n

theorem LanesOk.lineEvent {s : State} (h : LanesOk s.lanes) (n : Fin 8) (line : Nat) (words : List Word) :
    LanesOk (lineEvent n line words s).lanes := by
  intro m
  by_cases hm : m = n
  · subst hm
    rw [lineEvent_lane_self]
    refine ((h m).atLine.receiveLine m s.monitor.sources words).transmitLine line ?_
    rw [keptPackets_receiveLine]
    exact packetWords_kept_le _ _
  · rw [lineEvent_lane_other line words s hm]
    exact h m

theorem LanesOk.workOne {s : State} (h : LanesOk s.lanes) (n : Fin 192) : LanesOk (workOne n s).lanes := by
  simp only [Machine.workOne]
  split
  · exact h.map fun m l hl => hl.resetReferencesOf n m
  · exact h

theorem LanesOk.readLane (h : LanesOk lanes) (n : Byte) (clear : Bool) : LanesOk (readLane lanes n clear).1 := by
  unfold Machine.readLane
  split
  · exact h
  · next k _ =>
    dsimp only
    split
    · exact h.modify (h k).clearCounters
    · exact h

theorem LanesOk.setLane (h : LanesOk lanes) (n : Byte) (line : Word) (keep budget mode lowest : Byte) :
    LanesOk (setLane lanes n line keep budget mode lowest).1 := by
  unfold Machine.setLane
  split
  · next k st _ hst => exact h.modify (n := k) { h k with pending := decodeLaneSettings_ok hst }
  · exact h

theorem LanesOk.clearFlags (h : LanesOk lanes) (mask : Byte) : LanesOk (clearLaneFlags lanes mask) := by
  intro n
  rw [clearLaneFlags_lane]
  exact { h n with }

end

end Sys2Proof.Machine
end

section
/-!
The Alert Controller (R155, R159 to R162) and the Control Link (R166 to R169) stay sound: pulses and settings, and the requests that
transactions hand over with a layout.
-/
namespace Sys2Proof

/-! ## Requests taken from bytes have a layout (R168, R179) -/

theorem decodeAcks_count {n : Nat} {p : List Byte} {es : List NoticeAck} (h : decodeAcks n p = some es) : es.length = n := by
  induction n, p using decodeAcks.induct generalizing es with
  | case1 => cases h; rfl
  | case2 n hi lo mask rest ih =>
    rw [decodeAcks, Option.map_eq_some_iff] at h
    obtain ⟨es', hes, rfl⟩ := h
    rw [List.length_cons, ih hes]
  | case3 n p hnil hcons =>
    rw [decodeAcks] at h
    · cases h
    · exact hnil
    · exact hcons

theorem decodeEditFields_wellFormed {kind : Byte} {p : List Byte} {f : EditFields} (h : decodeEditFields kind p = some f) :
    wellFormedEdit f = true := by
  unfold decodeEditFields at h
  split at h
  · split at h <;> cases h
    rfl
  · split at h <;> cases h
    rfl
  · split at h <;> cases h
    rfl
  · split at h <;> cases h
    rfl
  · next h1 h2 h3 h4 =>
    cases h
    have hnone : kind.toNat ≠ 1 ∧ kind.toNat ≠ 2 ∧ kind.toNat ≠ 3 ∧ kind.toNat ≠ 4 := ⟨h1, h2, h3, h4⟩
    have hkind : kind.toNat = 0 ∨ 4 < kind.toNat := by omega
    simpa [wellFormedEdit] using hkind

/-- A command without an operand that is judged has a layout whatever the payload that names it. -/
theorem wellFormedCount_none {α : Type} {count : Byte} (h : countHasLayout count = false) :
    wellFormedCount count ([] : List α) = true := by
  have hcount : ¬ (1 ≤ count.toNat ∧ count.toNat ≤ Config.pageLimit) := of_decide_eq_false h
  rw [wellFormedCount, if_neg hcount]
  rfl

theorem wellFormedCount_some {α : Type} {count : Byte} {entries : List α} (h : countHasLayout count = true)
    (hlen : entries.length = count.toNat) : wellFormedCount count entries = true := by
  have hcount : 1 ≤ count.toNat ∧ count.toNat ≤ Config.pageLimit := of_decide_eq_true h
  rw [wellFormedCount, if_pos hcount]
  exact beq_iff_eq.2 hlen

theorem payloadAckNotices_wellFormed {p : List Byte} {i : Instr} (h : payloadAckNotices p = some i) : wellFormed i = true := by
  unfold payloadAckNotices at h
  split at h
  · cases h
  · next count rest =>
    split at h
    · next hcount =>
      obtain ⟨es, hes, rfl⟩ := Option.map_eq_some_iff.1 h
      exact wellFormedCount_some hcount (decodeAcks_count hes)
    · next hcount =>
      cases h
      exact wellFormedCount_none (Bool.not_eq_true _ ▸ hcount)

theorem payloadAckSources_wellFormed {p : List Byte} {i : Instr} (h : payloadAckSources p = some i) : wellFormed i = true := by
  unfold payloadAckSources at h
  split at h
  · cases h
  · next count rest =>
    split at h
    · next hcount =>
      split at h
      · next hlen =>
        cases h
        exact wellFormedCount_some hcount hlen
      · cases h
    · next hcount =>
      cases h
      exact wellFormedCount_none (Bool.not_eq_true _ ▸ hcount)

theorem payloadEdit_wellFormed {p : List Byte} {i : Instr} (h : payloadEdit p = some i) : wellFormed i = true := by
  unfold payloadEdit at h
  split at h
  · obtain ⟨f, hf, rfl⟩ := Option.map_eq_some_iff.1 h
    exact decodeEditFields_wellFormed hf
  · cases h

/-- What a code and a payload name has a layout: the counted lists and the edits judge theirs, the other requests have one. -/
theorem decodePayload_wellFormed {code : Nat} {p : List Byte} {i : Instr} (h : decodePayload code p = some i) :
    wellFormed i = true := by
  unfold decodePayload at h
  split at h
  case h_7 => exact payloadAckNotices_wellFormed h
  case h_12 => exact payloadEdit_wellFormed h
  case h_21 => exact payloadAckSources_wellFormed h
  case h_30 => cases h
  all_goals
    simp only [payload0, payload1, payload2, payload3, payload4, payload5, payloadEnables, payloadLane] at h
    split at h
    · cases h
      rfl
    · cases h

theorem decodeRequest_wellFormed {code length : Byte} {p : List Byte} {i : Instr} (h : decodeRequest code length p = .command i) :
    wellFormed i = true := by
  unfold decodeRequest at h
  split at h
  · split at h
    · cases h
    · split at h
      · next hp =>
        cases h
        exact decodePayload_wellFormed hp
      · cases h
  · cases h

end Sys2Proof

namespace Sys2Proof.Machine

/-! ## The Control Link -/

section
variable {l : Link}

/-- A link whose slot is empty is sound with its state. -/
theorem LinkOk.of_state {l' : Link} (h : LinkOk l) (hslot : l'.slot = []) (hstate : l'.state = l.state) : LinkOk l' := by
  obtain ⟨-, hok⟩ := h
  rw [LinkOk, hstate]
  exact ⟨hslot, hok⟩

theorem LinkOk.of_idle (hslot : l.slot = []) (hstate : l.state = .idle) : LinkOk l := by
  rw [LinkOk, hstate]
  exact ⟨hslot, trivial⟩

theorem LinkOk.of_ready {r : Response} (hslot : l.slot = []) (hstate : l.state = .ready r) (hr : r.payload.length ≤ 250) : LinkOk l := by
  rw [LinkOk, hstate]
  exact ⟨hslot, hr⟩

theorem LinkOk.handed {i : Instr} (h : LinkOk l) (hstate : l.state = .processing i) : wellFormed i = true := by
  obtain ⟨-, hok⟩ := h
  rw [hstate] at hok
  exact hok

/-- An accepted request is handed over with a layout, or the link answers it without a payload (R168). -/
theorem linkOk_accept (hslot : l.slot = []) (bytes : List Byte) (hstate : l.state = accept bytes) : LinkOk l := by
  unfold accept at hstate
  split at hstate
  · split at hstate
    · next hi =>
      rw [LinkOk, hstate]
      exact ⟨hslot, decodeRequest_wellFormed hi⟩
    · exact .of_ready hslot hstate (Nat.zero_le _)
    · exact .of_ready hslot hstate (Nat.zero_le _)
  · exact .of_idle hslot hstate

theorem judgeRequest_linkOk {l₀ : Link} (h : LinkOk l₀) (hstate : l.state = l₀.state) : LinkOk (judgeRequest l) := by
  unfold judgeRequest
  split
  · exact h.of_state rfl hstate
  · exact h.of_state rfl hstate
  · split
    · exact h.of_state rfl hstate
    · exact linkOk_accept rfl _ rfl

variable {s : State} (h : LinkOk s.link)
include h

/-- A transaction held at the release changes neither slot nor state (R175). -/
theorem LinkOk.transaction {n : Nat} {work : State → State} (hw : LinkOk (work s).link) : LinkOk (transaction n s work).link := by
  unfold Machine.transaction
  split
  · exact h.of_state h.1 rfl
  · exact hw

theorem LinkOk.requestTransaction (bytes : List Byte) : LinkOk (requestTransaction bytes s).link :=
  h.transaction (judgeRequest_linkOk h rfl)

theorem LinkOk.fetchTransaction (clocked : Nat) : LinkOk (fetchTransaction clocked s).link := by
  refine h.transaction ?_
  dsimp only
  split
  · cases hs : s.link.state with
    | ready r => exact .of_idle h.1 (by simp only [endFetch])
    | idle => exact .of_idle h.1 (by simp only [endFetch])
    | processing i => exact h.of_state h.1 (by simp only [endFetch, hs])
  · exact h.of_state h.1 rfl

theorem LinkOk.voidTransaction (bytes : List Byte) : LinkOk (voidTransaction bytes s).link :=
  h.transaction (h.of_state h.1 rfl)

theorem LinkOk.handOver (i : Instr) : LinkOk (handOver i s).link := by
  unfold Machine.handOver
  split
  · exact h
  · split
    · exact h.requestTransaction _
    · exact h

end

/-! ## The Alert Controller -/

section
variable {a : AlertController}

theorem alertOk_iff : AlertOk a ↔ (a.width = 1 ∨ a.width = 4 ∨ a.width = 16) ∧
    ∀ c, a.pulse = some c → a.style = .pulse ∧ 1 ≤ c ∧ c ≤ 16 := by
  unfold AlertOk
  cases a.pulse with
  | none => simp
  | some c => simp

theorem AlertOk.pulseTick (h : AlertOk a) : AlertOk (pulseTick a) := by
  obtain ⟨hwidth, hpulse⟩ := alertOk_iff.1 h
  unfold Machine.pulseTick
  split
  · exact h
  · next c hc =>
    obtain ⟨hstyle, -, hmax⟩ := hpulse c hc
    refine alertOk_iff.2 ⟨hwidth, fun k hk => ⟨hstyle, ?_⟩⟩
    rw [Option.ite_none_left_eq_some, Option.some.injEq] at hk
    omega

theorem AlertOk.pulseEnd (h : AlertOk a) : AlertOk (pulseEnd a) := by
  unfold Machine.pulseEnd
  split
  · exact h
  · split
    · exact h.pulseTick
    · exact h

/-- A change of the eligible set starts pulses in PULSE style, of the width in force (R159). -/
theorem AlertOk.settle {s w : State} (h : AlertOk w.alert) : AlertOk (settle s w).alert := by
  obtain ⟨hwidth, hpulse⟩ := alertOk_iff.1 h
  refine alertOk_iff.2 ⟨(settle_alert_width s w).symm ▸ hwidth, fun c hc => ?_⟩
  rw [settle_alert_style]
  rw [settle_alert_pulse] at hc
  split at hc
  · next hstart =>
    cases hc
    exact ⟨hstart.2.1, by omega⟩
  · exact hpulse c hc

theorem AlertOk.pollAlert {s : State} (h : AlertOk s.alert) : AlertOk (pollAlert s).1.alert := by
  unfold Machine.pollAlert
  split <;> exact h

theorem AlertOk.ackAlert {s : State} (h : AlertOk s.alert) (cls : Byte) : AlertOk (ackAlert s cls).1.alert := by
  unfold Machine.ackAlert
  split
  · exact h
  · split <;> exact h

theorem AlertOk.putAlert {s : State} (h : AlertOk s.alert) (masked : ClassFlags) (mode : PriorityMode) (lowest : AlertClass)
    (style : PinStyle) {width : Nat} (hw : width = 1 ∨ width = 4 ∨ width = 16) :
    AlertOk (putAlert s masked mode lowest style width).alert := by
  obtain ⟨-, hpulse⟩ := alertOk_iff.1 h
  rw [putAlert_alert]
  refine alertOk_iff.2 ⟨hw, fun c hc => ?_⟩
  dsimp only at hc ⊢
  rw [pulseAfterStyle_eq] at hc
  split at hc
  · next hstyle => exact ⟨hstyle.1, (hpulse c hc).2⟩
  · cases hc

theorem AlertOk.setAlert {s : State} (h : AlertOk s.alert) (masks mode lowest style width : Byte) :
    AlertOk (setAlert s masks mode lowest style width).1.alert := by
  unfold Machine.setAlert
  split
  · next w hw =>
    refine h.putAlert _ _ _ _ ?_
    unfold decodeWidth at hw
    split at hw
    · next hwidth => cases hw; exact hwidth
    · cases hw
  · exact h

theorem alertOk_reset : AlertOk resetAlert := ⟨.inl rfl, trivial⟩

end

end Sys2Proof.Machine
end

section
/-!
Every step keeps the part sound (R16 to R18, R29, R41 to R44, R95 to R104, R117, R129, R134, R139, R159, R166, R175): the blocks through
every command, the link, and the reset state while RESET_N is low.
-/
namespace Sys2Proof.Machine

variable {c : Instr} {s t : State}

/-! ## The blocks through the shared operations -/

/-- Every block but the Control Link is sound. -/
structure BlocksOk (s : State) : Prop where
  route : RouteOk s.route
  edit  : EditOk s.edit
  input : InputOk s.desk s.monitor
  lanes : LanesOk s.lanes
  alert : AlertOk s.alert

theorem inv_iff : Inv s ↔ BlocksOk s ∧ LinkOk s.link ∧ ResetHeld s := by
  constructor
  · intro h
    exact ⟨⟨h.route, h.edit, inputOk_iff.2 ⟨h.monitor, h.desk⟩, h.lanes, h.alert⟩, h.link, h.held⟩
  · rintro ⟨h, hlink, hheld⟩
    obtain ⟨hmonitor, hdesk⟩ := inputOk_iff.1 h.input
    exact ⟨h.route, h.edit, hmonitor, hdesk, h.lanes, h.alert, hlink, hheld⟩

/-- The judgement of the eligible set after an event starts a pulse at most (R157, R159). -/
theorem BlocksOk.settle (h : BlocksOk t) : BlocksOk (settle s t) := by
  refine ⟨?_, ?_, ?_, ?_, h.alert.settle⟩
  · rw [settle_route]; exact h.route
  · rw [settle_edit]; exact h.edit
  · rw [settle_desk, settle_monitor]; exact h.input
  · rw [settle_lanes]; exact h.lanes

theorem blocksOk_of_wellFormed {ok : Bool} {work : State → State} (arm : exec c s = takeWellFormed ok s work) (h : BlocksOk s)
    (hw : ok = true → BlocksOk (work s)) (ht : exec c s = .next t) : BlocksOk t := by
  rcases takeWellFormed_cases (arm.symm.trans ht) with ⟨hok, ⟨-, rfl⟩ | ⟨-, rfl⟩⟩
  · exact h
  · exact (hw hok).settle

theorem blocksOk_of_event {work : State → State} (arm : exec c s = takeEvent s work) (h : BlocksOk s) (hw : BlocksOk (work s))
    (ht : exec c s = .next t) : BlocksOk t :=
  blocksOk_of_wellFormed (arm.trans (takeWellFormed_true s work).symm) h (fun _ => hw) ht

/-- A request that is not handed over reaches no block; its own block acts on what was there before (R169). -/
theorem blocksOk_of_request {act : State → State × Response} (arm : exec c s = takeRequest c s act) (h : BlocksOk s)
    (hact : ∀ s, BlocksOk s → BlocksOk (act s).1) (ht : exec c s = .next t) : BlocksOk t := by
  have hover : BlocksOk (handOver c s) := by
    obtain ⟨l, k, ho⟩ := handOver_frame c s
    rw [ho]
    exact { h with }
  rcases takeRequest_cases (arm.symm.trans ht) with ⟨-, rfl⟩ | ⟨-, -, rfl⟩ | ⟨-, -, rfl⟩
  · exact h
  · exact hover.settle
  · have hdone := hact _ hover
    exact BlocksOk.settle { hdone with }

theorem blocksOk_of_read {answer : State → Response} (arm : exec c s = takeRead c s answer) (h : BlocksOk s)
    (ht : exec c s = .next t) : BlocksOk t :=
  blocksOk_of_request arm h (fun _ h => h) ht

/-! ## What the requests of the desk ports and of the Alert Controller can reach -/

theorem setDesk_frame (s : State) (dir port : Byte) (on : Bool) :
    ∃ d m, (setDesk s dir port on).1 = { s with desk := d, monitor := m } := by
  unfold setDesk
  repeat' split
  · exact ⟨s.desk, s.monitor, rfl⟩
  · exact ⟨_, _, rfl⟩
  · exact ⟨_, s.monitor, rfl⟩
  · exact ⟨s.desk, s.monitor, rfl⟩

theorem pollAlert_frame (s : State) : ∃ a, (pollAlert s).1 = { s with alert := a } := by
  unfold pollAlert
  split
  · exact ⟨_, rfl⟩
  · exact ⟨s.alert, rfl⟩

theorem ackAlert_frame (s : State) (cls : Byte) : ∃ a, (ackAlert s cls).1 = { s with alert := a } := by
  unfold ackAlert
  repeat' split
  · exact ⟨s.alert, rfl⟩
  · exact ⟨_, rfl⟩
  · exact ⟨s.alert, rfl⟩

theorem setAlert_frame (s : State) (masks mode lowest style width : Byte) :
    ∃ a, (setAlert s masks mode lowest style width).1 = { s with alert := a } := by
  unfold setAlert
  split
  · exact ⟨_, rfl⟩
  · exact ⟨s.alert, rfl⟩

/-! ## The works that reach more than one block -/

section
variable (h : BlocksOk s)
include h

theorem BlocksOk.of_link {l : Link} {k : Nat} (ht : t = { s with link := l, freeCount := k }) : BlocksOk t := by
  rw [ht]
  exact { h with }

theorem BlocksOk.with_monitor {m : SourceMonitor} (hm : InputOk s.desk m) : BlocksOk { s with monitor := m } :=
  { h with input := hm }

theorem BlocksOk.tick {desk : List DeskArrival} (hwf : wellFormedDesk desk = true) : BlocksOk (tick desk s) := by
  refine ⟨?_, ?_, h.input.tick hwf, h.lanes.tick desk, ?_⟩
  · rw [tick_route]
    exact (h.route.routeTick _ _).addTriggers _ _
  · rw [tick_edit]
    exact h.edit.routeTick _ _
  · rw [tick_alert]
    exact h.alert.pulseTick

theorem BlocksOk.closeWindow : BlocksOk (closeWindow s) := by
  refine ⟨?_, ?_, h.input.closeWindow, ?_, ?_⟩
  · unfold Machine.closeWindow
    split
    · exact h.route.latchDestMeters.addTriggers _ _
    · exact h.route
  · rw [closeWindow_frame]; exact h.edit
  · rw [closeWindow_frame]; exact h.lanes
  · rw [closeWindow_frame]; exact h.alert

theorem BlocksOk.referencePulse : BlocksOk (referencePulse s) := by
  unfold Machine.referencePulse
  exact { h.closeWindow with edit := h.edit.switchPoint .ref }

theorem BlocksOk.lineEvent (n : Fin 8) (line : Nat) (words : List Word) : BlocksOk (lineEvent n line words s) :=
  { h with
    edit := h.edit.lineSwitchPoint n line _, input := h.input.lineEvent n line words, lanes := h.lanes.lineEvent n line words }

theorem BlocksOk.clearAllStep : BlocksOk (clearAllStep s) :=
  { h with route := h.route.carryOutClearAll _, edit := h.edit.carryOutClearAll _ }

theorem BlocksOk.batchApplyStep : BlocksOk (batchApplyStep s) :=
  { h with route := h.route.applyDue _, edit := h.edit.applyDue _ }

/-- The work of one source, where the row has it do anything (R98 to R102; log 3). -/
theorem BlocksOk.workOne_if (cond : Bool) (n : Fin 192) : BlocksOk (if cond then workOne n s else s) := by
  split
  · refine ⟨?_, ?_, h.input.workOne n, h.lanes.workOne n, ?_⟩
    · simp only [workOne]
      exact h.route.addTriggers _ _
    · rw [workOne_edit]; exact h.edit
    · rw [workOne_alert]; exact h.alert
  · exact h

theorem BlocksOk.enterQuiet (n : Fin 192) : BlocksOk (enterQuiet n s) := by
  have hinput := h.input.enterQuiet n
  unfold Machine.enterQuiet at hinput ⊢
  dsimp only at hinput ⊢
  split at hinput
  · next hq =>
    rw [if_pos hq]
    exact { h with route := h.route.addTriggers _ _, input := hinput }
  · next hq =>
    rw [if_neg hq]
    exact h

theorem BlocksOk.setDesk (dir port : Byte) (on : Bool) : BlocksOk (setDesk s dir port on).1 := by
  obtain ⟨d, m, hframe⟩ := setDesk_frame s dir port on
  have hinput := h.input.setDesk dir port on
  rw [hframe] at hinput ⊢
  exact { h with input := hinput }

theorem BlocksOk.restartLaneNumbered (lane : Byte) : BlocksOk (restartLaneNumbered s lane).1 := by
  unfold Machine.restartLaneNumbered
  split
  · exact h
  · next n _ =>
    refine ⟨?_, ?_, ?_, ?_, ?_⟩
    · rw [restartLane_route]; exact h.route
    · rw [restartLane_edit]; exact h.edit
    · rw [restartLane_desk, restartLane_monitor]; exact h.input.idleLaneSources n
    · rw [restartLane_lanes]; exact h.lanes.modify ((h.lanes n).restart s.route n)
    · rw [restartLane_alert]; exact h.alert

theorem BlocksOk.of_alert {a : AlertController} (ht : t = { s with alert := a }) (ha : AlertOk t.alert) : BlocksOk t := by
  subst ht
  exact { h with alert := ha }

theorem BlocksOk.pollAlert : BlocksOk (pollAlert s).1 := by
  obtain ⟨a, hframe⟩ := pollAlert_frame s
  exact h.of_alert hframe h.alert.pollAlert

theorem BlocksOk.ackAlert (cls : Byte) : BlocksOk (ackAlert s cls).1 := by
  obtain ⟨a, hframe⟩ := ackAlert_frame s cls
  exact h.of_alert hframe (h.alert.ackAlert cls)

theorem BlocksOk.setAlert (masks mode lowest style width : Byte) : BlocksOk (setAlert s masks mode lowest style width).1 := by
  obtain ⟨a, hframe⟩ := setAlert_frame s masks mode lowest style width
  exact h.of_alert hframe (h.alert.setAlert masks mode lowest style width)

end

/-! ## The reset state -/

theorem blocksOk_reset : BlocksOk State.reset := by
  refine ⟨routeOk_reset, editOk_reset, inputOk_reset, fun n => ?_, alertOk_reset⟩
  simp only [State.reset, Fin.getElem_fin, Vector.getElem_replicate]
  exact laneOk_reset

theorem blocksOk_resetState (s : State) : BlocksOk (resetState s) := { blocksOk_reset with }

theorem linkOk_reset : LinkOk resetLink := ⟨rfl, trivial⟩

/-- A short low level resets every block or touches none (R175; log 7). -/
theorem BlocksOk.shortReset (h : BlocksOk s) : BlocksOk (shortReset s) := by
  rcases shortReset_cases s with he | he <;> rw [he]
  · exact blocksOk_resetState _
  · exact { h with }

/-! ## Every command -/

/-- Every command keeps the blocks sound. -/
theorem BlocksOk.exec (h : BlocksOk s) (ht : exec c s = .next t) : BlocksOk t := by
  have event {work : State → State} (arm : Machine.exec c s = takeEvent s work) (hw : BlocksOk (work s)) : BlocksOk t :=
    blocksOk_of_event arm h hw ht
  have wellFormed {ok : Bool} {work : State → State} (arm : Machine.exec c s = takeWellFormed ok s work)
      (hw : ok = true → BlocksOk (work s)) : BlocksOk t := blocksOk_of_wellFormed arm h hw ht
  have request {act : State → State × Response} (arm : Machine.exec c s = takeRequest c s act)
      (hact : ∀ s, BlocksOk s → BlocksOk (act s).1) : BlocksOk t := blocksOk_of_request arm h hact ht
  have read {answer : State → Response} (arm : Machine.exec c s = takeRead c s answer) : BlocksOk t :=
    blocksOk_of_read arm h ht
  cases c with
  | deviceReset b =>
    obtain rfl := Host.Outcome.next.inj ((exec_deviceReset b s).symm.trans ht)
    split
    · exact blocksOk_resetState s
    · exact h.shortReset
  | resetRelease csLow =>
    obtain rfl := Host.Outcome.next.inj ((exec_resetRelease csLow s).symm.trans ht)
    split
    · exact { h with }
    · exact h
  | sampleTick desk => exact wellFormed (exec_sampleTick desk s) h.tick
  | refFramePulse => exact event (exec_refFramePulse s) h.referencePulse
  | inputLineEvent n line ws => exact wellFormed (exec_inputLineEvent n line ws s) fun _ => h.lineEvent n line ws
  | request bytes =>
    obtain ⟨l, k, hframe⟩ := requestTransaction_frame bytes s
    exact event (exec_request bytes s) (h.of_link hframe)
  | fetch clocked =>
    obtain ⟨l, k, hframe⟩ := fetchTransaction_frame clocked s
    exact event (exec_fetch clocked s) (h.of_link hframe)
  | voidTransaction bytes =>
    obtain ⟨l, k, hframe⟩ := voidTransaction_frame bytes s
    exact wellFormed (exec_voidTransaction bytes s) fun _ => h.of_link hframe
  | readRoute hd => exact read (exec_readRoute hd s)
  | findDest d => exact read (exec_findDest d s)
  | listSource src st => exact read (exec_listSource src st s)
  | readNotices st => exact read (exec_readNotices st s)
  | readMeters side first count => exact read (exec_readMeters side first count s)
  | readResult slot => exact read (exec_readResult slot s)
  | readSourceChanges st => exact read (exec_readSourceChanges st s)
  | status => exact request (exec_status s) fun _ h => { h with }
  | clearClip hd => exact request (exec_clearClip hd s) fun _ h => { h with route := h.route.clearClip hd }
  | ackNotices n es => exact request (exec_ackNotices n es s) fun _ h => { h with route := h.route.ackNotices n es }
  | setGuards mask => exact request (exec_setGuards mask s) fun _ h => { h with route := h.route.setGuards mask }
  | clearAll force => exact request (exec_clearAll force s) fun _ h => { h with route := h.route.askClearAll force }
  | openBatch => exact request (exec_openBatch s) fun _ h => { h with edit := h.edit.openBatch }
  | addEdit slot f => exact request (exec_addEdit slot f s) fun s h => { h with edit := h.edit.addEdit s.route slot f }
  | armBatch slot ti fr mo => exact request (exec_armBatch slot ti fr mo s) fun _ h => { h with edit := h.edit.armBatch slot ti fr mo }
  | releaseBatch slot => exact request (exec_releaseBatch slot s) fun _ h => { h with edit := h.edit.releaseBatch slot }
  | cancelBatch slot => exact request (exec_cancelBatch slot s) fun _ h => { h with edit := h.edit.cancelBatch slot }
  | readSource src clear => exact request (exec_readSource src clear s) fun _ h => { h with input := h.input.readSource src clear }
  | setMonitor l q f le qe => exact request (exec_setMonitor l q f le qe s) fun _ h => { h with input := h.input.setMonitor l q f le qe }
  | setChangeEnables e => exact request (exec_setChangeEnables e s) fun _ h => h.with_monitor (h.input.setEnables e)
  | ackSources n ss => exact request (exec_ackSources n ss s) fun _ h => { h with input := h.input.ackSources n ss }
  | setDesk dir port on => exact request (exec_setDesk dir port on s) fun _ h => h.setDesk dir port on
  | readLane n clear => exact request (exec_readLane n clear s) fun _ h => { h with lanes := h.lanes.readLane n clear }
  | setLane n sl k b m lo => exact request (exec_setLane n sl k b m lo s) fun _ h => { h with lanes := h.lanes.setLane n sl k b m lo }
  | restartLane n => exact request (exec_restartLane n s) fun _ h => h.restartLaneNumbered n
  | ackLanes mask => exact request (exec_ackLanes mask s) fun _ h => { h with lanes := h.lanes.clearFlags mask }
  | pollAlert => exact request (exec_pollAlert s) fun _ h => h.pollAlert
  | ackAlert cls => exact request (exec_ackAlert cls s) fun _ h => h.ackAlert cls
  | setAlert ms m lo st w => exact request (exec_setAlert ms m lo st w s) fun _ h => h.setAlert ms m lo st w
  | clearAllExecute => exact event (exec_clearAllExecute s) h.clearAllStep
  | batchApply => exact event (exec_batchApply s) h.batchApplyStep
  | failoverTrigger n kind => exact event (exec_failoverTrigger n kind s) { h with route := h.route.takeTrigger _ n kind }
  | rampEnd i => exact event (exec_rampEnd i s) { h with route := h.route.rampEndAt i }
  | retireRampEnd i => exact event (exec_retireRampEnd i s) { h with route := h.route.retireEndAt i }
  | sourceRunning n => exact event (exec_sourceRunning n s) (h.workOne_if _ n)
  | closeMarkTaken n => exact event (exec_closeMarkTaken n s) (h.workOne_if _ n)
  | lossTimerExpiry n => exact event (exec_lossTimerExpiry n s) (h.workOne_if _ n)
  | presenceTimeout n => exact event (exec_presenceTimeout n s) { h with lanes := h.lanes.modify (h.lanes n).presenceTimeout }
  | pulseEnd => exact event (exec_pulseEnd s) { h with alert := h.alert.pulseEnd }
  | quietEntered n => exact event (exec_quietEntered n s) (h.enterQuiet n)
  | batchDue i => exact event (exec_batchDue i s) { h with edit := h.edit.becomeDue i }
  | setLaneInForce n => exact event (exec_setLaneInForce n s) { h with lanes := h.lanes.modify (h.lanes n).bringSettings }
  | closePacketGrant n j => exact event (exec_closePacketGrant n j s) { h with lanes := h.lanes.modify ((h.lanes n).closeTurn j) }
  | deskFrameInProgressCompleted fs =>
    exact wellFormed (exec_deskFrameInProgressCompleted fs s) fun hok => { h with input := h.input.completeDeskFrames hok }

/-! ## The link through every command -/

theorem linkOk_of_event {work : State → State} (arm : exec c s = takeEvent s work) (h : LinkOk s.link) (hw : LinkOk (work s).link)
    (ht : exec c s = .next t) : LinkOk t.link := by
  rcases takeEvent_cases (arm.symm.trans ht) with ⟨-, rfl⟩ | ⟨-, rfl⟩
  · exact h
  · rw [settle_link]; exact hw

theorem linkOk_of_wellFormed {ok : Bool} {work : State → State} (arm : exec c s = takeWellFormed ok s work) (h : LinkOk s.link)
    (hw : LinkOk (work s).link) (ht : exec c s = .next t) : LinkOk t.link := by
  rcases takeWellFormed_cases (arm.symm.trans ht) with ⟨-, ⟨-, rfl⟩ | ⟨-, rfl⟩⟩
  · exact h
  · rw [settle_link]; exact hw

/-- A request handed over has a layout, so that its response fits the buffer (R166, R169). -/
theorem linkOk_of_request (hreq : isRequest c = true) (hedit : EditOk s.edit) (h : LinkOk s.link) (ht : exec c s = .next t) :
    LinkOk t.link := by
  obtain ⟨act, arm, kept, fits⟩ := exists_takenBy hreq
  have hover := h.handOver c
  rcases takeRequest_cases ((arm s).symm.trans ht) with ⟨-, rfl⟩ | ⟨-, -, rfl⟩ | ⟨-, hstate, rfl⟩
  · exact h
  · rw [settle_link]; exact hover
  · obtain ⟨l, k, hframe⟩ := handOver_frame c s
    have hfits := fits (handOver c s) (by rw [hframe]; exact hedit) (hover.handed hstate)
    obtain ⟨-, -, hlink⟩ := kept (handOver c s)
    rw [settle_link]
    refine .of_ready ?_ (respond_link_state _ _) hfits
    rw [respond_link_slot, hlink]
    exact hover.1

theorem enterQuiet_link (n : Fin 192) (s : State) : (enterQuiet n s).link = s.link := by
  unfold enterQuiet
  dsimp only
  split <;> rfl

theorem referencePulse_link (s : State) : (referencePulse s).link = s.link := by
  rw [referencePulse, closeWindow_frame]

theorem workOne_if_link (cond : Bool) (n : Fin 192) (s : State) : (if cond then workOne n s else s).link = s.link := by
  split
  · exact workOne_link n s
  · rfl

/-- Every command keeps the link sound. -/
theorem linkOk_exec (hedit : EditOk s.edit) (h : LinkOk s.link) (ht : exec c s = .next t) : LinkOk t.link := by
  have event {work : State → State} (arm : exec c s = takeEvent s work) (hw : (work s).link = s.link) : LinkOk t.link :=
    linkOk_of_event arm h (hw.symm ▸ h) ht
  cases c with
  | deviceReset b =>
    obtain rfl := Host.Outcome.next.inj ((exec_deviceReset b s).symm.trans ht)
    split
    · exact linkOk_reset
    · rcases shortReset_cases s with he | he <;> rw [he]
      · exact linkOk_reset
      · exact h
  | resetRelease csLow =>
    obtain rfl := Host.Outcome.next.inj ((exec_resetRelease csLow s).symm.trans ht)
    split
    · exact h.of_state h.1 rfl
    · exact h
  | request bytes => exact linkOk_of_event (exec_request bytes s) h (h.requestTransaction bytes) ht
  | fetch clocked => exact linkOk_of_event (exec_fetch clocked s) h (h.fetchTransaction clocked) ht
  | voidTransaction bytes => exact linkOk_of_wellFormed (exec_voidTransaction bytes s) h (h.voidTransaction bytes) ht
  | sampleTick desk => exact linkOk_of_wellFormed (exec_sampleTick desk s) h ((tick_link desk s).symm ▸ h) ht
  | inputLineEvent n line ws =>
    exact linkOk_of_wellFormed (exec_inputLineEvent n line ws s) h ((lineEvent_link n line ws s).symm ▸ h) ht
  | deskFrameInProgressCompleted fs => exact linkOk_of_wellFormed (exec_deskFrameInProgressCompleted fs s) h h ht
  | refFramePulse => exact event (exec_refFramePulse s) (referencePulse_link s)
  | clearAllExecute => exact event (exec_clearAllExecute s) (clearAllStep_link s)
  | batchApply => exact event (exec_batchApply s) (batchApplyStep_link s)
  | failoverTrigger n kind => exact event (exec_failoverTrigger n kind s) rfl
  | rampEnd i => exact event (exec_rampEnd i s) rfl
  | retireRampEnd i => exact event (exec_retireRampEnd i s) rfl
  | sourceRunning n => exact event (exec_sourceRunning n s) (workOne_if_link _ n s)
  | closeMarkTaken n => exact event (exec_closeMarkTaken n s) (workOne_if_link _ n s)
  | lossTimerExpiry n => exact event (exec_lossTimerExpiry n s) (workOne_if_link _ n s)
  | presenceTimeout n => exact event (exec_presenceTimeout n s) rfl
  | pulseEnd => exact event (exec_pulseEnd s) rfl
  | quietEntered n => exact event (exec_quietEntered n s) (enterQuiet_link n s)
  | batchDue i => exact event (exec_batchDue i s) rfl
  | setLaneInForce n => exact event (exec_setLaneInForce n s) rfl
  | closePacketGrant n j => exact event (exec_closePacketGrant n j s) rfl
  | _ => exact linkOk_of_request rfl hedit h ht

/-! ## RESET_N (R175) -/

theorem resetHeld_of_high (h : s.rstLow = false) : ResetHeld s := fun hl => by
  rw [h] at hl
  cases hl

/-- The reset state does not depend on the state it is entered from, but for the model's own queue and counter. -/
theorem resetHeld_resetState (s : State) : ResetHeld (resetState s) := fun _ => rfl

theorem ResetHeld.with_own (h : ResetHeld s) (k : Nat) (q : List Instr) : ResetHeld { s with freeCount := k, pending := q } := by
  intro hl
  rw [h hl]
  rfl

/-- While RESET_N is low only its own two commands do anything (R175). -/
theorem exec_low (hl : s.rstLow = true) (hd : ∀ b, c ≠ .deviceReset b) (hr : ∀ b, c ≠ .resetRelease b) (ht : exec c s = .next t) :
    t = s := by
  have judged {ok : Bool} {work : State → State} (arm : exec c s = takeWellFormed ok s work) : t = s := by
    rcases takeWellFormed_cases (arm.symm.trans ht) with ⟨-, ⟨-, he⟩ | ⟨hh, -⟩⟩
    · exact he
    · rw [hl] at hh
      cases hh
  have event {work : State → State} (arm : exec c s = takeEvent s work) : t = s :=
    judged (arm.trans (takeWellFormed_true s work).symm)
  have request (hreq : isRequest c = true) : t = s := by
    obtain ⟨act, arm, -, -⟩ := exists_takenBy hreq
    exact event (arm s)
  cases c with
  | deviceReset b => exact absurd rfl (hd b)
  | resetRelease b => exact absurd rfl (hr b)
  | sampleTick desk => exact judged (exec_sampleTick desk s)
  | inputLineEvent n line ws => exact judged (exec_inputLineEvent n line ws s)
  | voidTransaction bytes => exact judged (exec_voidTransaction bytes s)
  | deskFrameInProgressCompleted fs => exact judged (exec_deskFrameInProgressCompleted fs s)
  | ackNotices n es => exact request rfl
  | addEdit slot f => exact request rfl
  | ackSources n ss => exact request rfl
  | _ =>
    obtain ⟨work, arm⟩ := exec_eq_takeEvent rfl hd hr s
    exact event arm

theorem ResetHeld.exec (h : ResetHeld s) (ht : exec c s = .next t) : ResetHeld t := by
  by_cases hd : ∃ b, c = .deviceReset b
  · obtain ⟨b, rfl⟩ := hd
    obtain rfl := Host.Outcome.next.inj ((exec_deviceReset b s).symm.trans ht)
    split
    · exact resetHeld_resetState s
    · rcases shortReset_cases s with he | he <;> rw [he]
      · exact resetHeld_resetState _
      · exact h.with_own (s.freeCount + 1) s.pending
  replace hd (b : Bool) (hb : c = .deviceReset b) : False := hd ⟨b, hb⟩
  cases hl : s.rstLow with
  | false =>
    obtain ⟨w, rfl, hw⟩ := exec_judged hl hd ht
    exact resetHeld_of_high ((settle_rstLow s w).trans (hw.rstLow.trans hl))
  | true =>
    by_cases hr : ∃ b, c = .resetRelease b
    · obtain ⟨b, rfl⟩ := hr
      obtain rfl := Host.Outcome.next.inj ((exec_resetRelease b s).symm.trans ht)
      rw [hl]
      exact resetHeld_of_high rfl
    · obtain rfl := exec_low hl hd (fun b hb => hr ⟨b, hb⟩) ht
      exact h

/-! ## The part -/

/-- A command keeps the part sound. -/
theorem Inv.exec (h : Inv s) (ht : exec c s = .next t) : Inv t := by
  obtain ⟨hblocks, hlink, hheld⟩ := inv_iff.1 h
  exact inv_iff.2 ⟨hblocks.exec ht, linkOk_exec hblocks.edit hlink ht, hheld.exec ht⟩

/-- The queue of commands is no part of what a sound state is about. -/
theorem Inv.with_pending (h : Inv s) (q : List Instr) : Inv { s with pending := q } :=
  { h with held := h.held.with_own s.freeCount q }

/-- Settles O60: the command at the front of the queue keeps every block sound; an idle part stays as it is. -/
theorem everyStepKeepsThePartSound : Obligations.EveryStepKeepsThePartSound := by
  intro s t h ht
  unfold step at ht
  split at ht
  · cases ht
    exact h
  · next i rest hq => exact (h.with_pending rest).exec ht

/-- Settles O59, the Route Table's part of O60. -/
theorem everyStepKeepsTheRouteTableSound : Obligations.EveryStepKeepsTheRouteTableSound := fun s t h ht =>
  (everyStepKeepsThePartSound s t h ht).route

theorem inv_reset : Inv State.reset := inv_iff.2 ⟨blocksOk_reset, linkOk_reset, resetHeld_of_high rfl⟩

end Sys2Proof.Machine
end

section
/-!
The state after a reset (R40, R63, R82, R109, R114, R131, R133, R151, R155, R164, R166, R175, R184).
-/
namespace Sys2Proof.Machine

theorem sourceAtReset_reset : SourceAtReset resetSource :=
  ⟨rfl, rfl, fun _ => rfl, rfl, rfl, rfl, rfl, rfl, rfl, rfl, rfl⟩

theorem laneAtReset_reset : LaneAtReset resetLane := by
  refine ⟨rfl, rfl, rfl, rfl, rfl, rfl, rfl, rfl, fun j => ?_, fun j => ?_, rfl⟩ <;> simp [resetLane]

theorem bankAny_replicate {α : Type} {n : Nat} {p : α → Bool} {x : α} (h : p x = false) : bankAny p (Vector.replicate n x) = false :=
  (bankAny_false_iff _ _).2 fun i => by simpa using h

theorem requests_reset : requests State.reset = ⟨false, false, false, false⟩ := by
  simp only [requests, State.reset, resetRoute, resetEdit, ClassFlags.mk.injEq]
  exact ⟨bankAny_replicate rfl, bankAny_replicate rfl, bankAny_replicate rfl, bankAny_replicate rfl⟩

theorem atReset_reset : AtReset State.reset where
  slots i := by simp [State.reset, resetRoute]
  destMap d := by simp [State.reset, resetRoute]
  guards := rfl
  clearAll := rfl
  triggers n := by simp [State.reset, resetRoute]
  samples d := by simp [State.reset, resetRoute, resetMeter]
  batches := ⟨fun i => by simp [State.reset, resetEdit], rfl, rfl⟩
  sources n := by
    simp only [State.reset, Fin.getElem_fin, Vector.getElem_replicate]
    exact sourceAtReset_reset
  settings := rfl
  lanes n := by
    simp only [State.reset, Fin.getElem_fin, Vector.getElem_replicate]
    exact laneAtReset_reset
  desk := ⟨rfl, rfl, fun p => by simp [State.reset, resetDesk], fun p => by simp [State.reset, resetDesk]⟩
  alert := rfl
  link := ⟨rfl, rfl, rfl, rfl, rfl⟩
  requests := requests_reset

/-- Settles O58. -/
theorem resetIsSound : Obligations.ResetIsSound := ⟨inv_reset, atReset_reset, rfl, rfl⟩

/-- Settles O4: the reset state is that of the start, but for the level of RESET_N and the model's own queue and counter. -/
theorem deviceResetPutsEveryBlockInItsResetState : Obligations.DeviceResetPutsEveryBlockInItsResetState := by
  intro s
  have hreset : AtReset (resetState s) := { atReset_reset with requests := requests_reset }
  exact ⟨resetState s, rfl, hreset, rfl, rfl, rfl, rfl, rfl, rfl, rfl⟩

end Sys2Proof.Machine
end

section
/-!
Handles (R21, R22) and the requests of the Route Table that name a record or a destination: READ_ROUTE, FIND_DEST, CLEAR_CLIP, ACK_NOTICES,
SET_GUARDS, CLEAR_ALL (R31, R34, R35, R37, R39, R60).
-/
namespace Sys2Proof.Machine

/-! ## Handles (R21, R22) -/

section
variable {rt rt' : RouteTable} {h : Handle} {i : Fin 160} {r r' : Record}

theorem checkHandle_names : checkHandle rt h = .valid i r ↔ HandleNames rt h i r := by
  have hgen : rt.slots[i].gen = hiByte h ↔ rt.slots[i].gen.toNat = h.toNat / 256 := by
    rw [← BitVec.toNat_inj]
    exact Eq.congr_right (markerOwner_eq h)
  rw [checkHandle_valid, loByte_toNat, hgen]

theorem checkHandle_range_iff : checkHandle rt h = .range ↔ 160 ≤ h.toNat % 256 := by
  refine ⟨fun hc => ?_, fun hh => checkHandle_range (by rwa [loByte_toNat])⟩
  by_contra hlt
  rw [checkHandle, loByte_toNat, toIndex_lt (Nat.not_le.1 hlt)] at hc
  dsimp only at hc
  repeat' split at hc
  all_goals cases hc

/-- A handle whose slot part names a slot is valid or STALE. -/
theorem checkHandle_stale_iff : checkHandle rt h = .stale ↔ HandleStale rt h := by
  constructor
  · intro hc
    have hlt : h.toNat % 256 < 160 := by
      by_contra hge
      rw [checkHandle_range_iff.2 (Nat.not_lt.1 hge)] at hc
      cases hc
    refine ⟨⟨_, hlt⟩, rfl, ?_⟩
    rw [or_iff_not_imp_left]
    intro hsome hgen
    obtain ⟨r, hr⟩ := Option.ne_none_iff_exists'.1 hsome
    rw [checkHandle_names.2 ⟨rfl, hr, hgen⟩] at hc
    cases hc
  · rintro ⟨i, hi, hnone⟩
    cases hc : checkHandle rt h with
    | stale => rfl
    | range =>
      have := checkHandle_range_iff.1 hc
      omega
    | valid j r =>
      obtain ⟨hj, hr, hgen⟩ := checkHandle_names.1 hc
      obtain rfl : i = j := Fin.ext (hi.symm.trans hj)
      rcases hnone with hnone | hne
      · rw [hr] at hnone
        cases hnone
      · exact absurd hgen hne

/-! ## The record of a slot replaced -/

theorem setRecord_slot_self : (setRecord rt i r').slots[i] = ⟨rt.slots[i].gen, some r'⟩ := by
  rw [setRecord_slots]
  exact bankModify_get_self _ _ _

theorem setRecord_slot_other {j : Fin 160} (hj : j ≠ i) : (setRecord rt i r').slots[j] = rt.slots[j] := by
  rw [setRecord_slots]
  exact bankModify_other _ _ hj

theorem slotHolds_setRecord : SlotHolds rt (setRecord rt i r') i r' :=
  ⟨setRecord_slot_self, fun _ => setRecord_slot_other, rfl⟩

end

/-! ## READ_ROUTE and CLEAR_CLIP (R34, R37) -/

section
variable {rt : RouteTable} {h : Handle} {i : Fin 160} {r : Record}

theorem readRoute_range (hc : checkHandle rt h = .range) : readRoute rt h = ⟨.range, []⟩ := by
  rw [readRoute, hc]
  rfl

theorem readRoute_stale (hc : checkHandle rt h = .stale) : readRoute rt h = ⟨.stale, []⟩ := by
  rw [readRoute, hc]
  rfl

theorem readRoute_valid (hc : checkHandle rt h = .valid i r) : readRoute rt h = ⟨.ok, recordImage h r⟩ := by
  rw [readRoute, hc]
  rfl

theorem clearClip_range (hc : checkHandle rt h = .range) : clearClip rt h = (rt, ⟨.range, []⟩) := by
  rw [clearClip, hc]
  rfl

theorem clearClip_stale (hc : checkHandle rt h = .stale) : clearClip rt h = (rt, ⟨.stale, []⟩) := by
  rw [clearClip, hc]
  rfl

theorem clearClip_valid (hc : checkHandle rt h = .valid i r) :
    clearClip rt h = (setRecord rt i { r with clip := false }, ⟨.ok, [if r.clip then 1#8 else 0#8]⟩) := by
  rw [clearClip, hc]
  rfl

end

section
variable {c : Instr} {s : State} {act : State → RouteTable × Response} {rt : RouteTable} {r : Response}

/-- A request leaves the Route Table that its block gives. -/
theorem takenWith_of_route (arm : exec c s = takeRequest c s fun s => ({ s with route := (act s).1 }, (act s).2))
    (h : HandedOver c s) (ha : act s = (rt, r)) : TakenWith c s { s with route := rt } r := by
  have ht := takenWith_of_request arm h
  simp only [ha] at ht
  exact ht

/-- A request that the Route Table refuses is answered, and nothing else changes. -/
theorem answeredWith_of_route (arm : exec c s = takeRequest c s fun s => ({ s with route := (act s).1 }, (act s).2))
    (h : HandedOver c s) (ha : act s = (s.route, r)) : AnsweredWith c s r :=
  answeredWith_of_refused arm h (by simp only [ha])

/-- A reading request is answered as its answer is. -/
theorem answeredWith_of_answer {answer : State → Response} (arm : exec c s = takeRead c s answer) (h : HandedOver c s)
    (ha : answer s = r) : AnsweredWith c s r := by
  subst ha
  exact answeredWith_of_read arm h

end

/-- Settles O14: the three outcomes of the check, and the two refusals. -/
theorem handlesAreChecked : Obligations.HandlesAreChecked := by
  refine ⟨fun rt h => ⟨checkHandle_range_iff, checkHandle_stale_iff, fun i r => checkHandle_names⟩, fun h s => ⟨fun hr => ?_, fun hs => ?_⟩⟩
  · rw [← checkHandle_range_iff (rt := s.route)] at hr
    exact ⟨fun hh => answeredWith_of_answer (exec_readRoute h s) hh (readRoute_range hr),
      fun hh => answeredWith_of_route (exec_clearClip h s) hh (clearClip_range hr)⟩
  · rw [← checkHandle_stale_iff] at hs
    exact ⟨fun hh => answeredWith_of_answer (exec_readRoute h s) hh (readRoute_stale hs),
      fun hh => answeredWith_of_route (exec_clearClip h s) hh (clearClip_stale hs)⟩

/-! ## The record image (R34, R181, R182) -/

theorem legSourceByte_eq (src : LegSource) : legSourceByte src = match src with
    | .track n => BitVec.ofNat 8 n.val
    | .silence => 255#8 := by
  cases src <;> rfl

theorem phaseCode_eq (p : Phase) : phaseCode p = match p with
    | .live => 1#8
    | .ramping _ _ => 2#8
    | .retiring _ => 3#8 := by
  cases p <;> rfl

theorem legImage_eq_legCoded (l : Leg) : legImage l = legCoded l := by
  rw [legImage, wordBytes_eq_numberCoded, twoBytes_eq_numberCoded, legSourceByte_eq]
  rfl

theorem rampImage_length (o : Option Ramp) : (rampImage o).length = 11 := by
  cases o <;> rfl

theorem optionalLegImage_length (o : Option Leg) : (optionalLegImage o).length = 7 := by
  cases o <;> rfl

theorem backupImage_length (o : Option Backup) : (backupImage o).length = 3 := by
  cases o <;> rfl

/-- A mask byte of up to three members as the sum of its bits (R179). -/
theorem oneByte_maskOf_two (a b : Bool) : oneByte (maskOf [a, b]) = BitVec.ofNat 8 ((if a then 1 else 0) + if b then 2 else 0) := by
  cases a <;> cases b <;> rfl

section
variable (h : Handle) (r : Record)

/-- The image from the fading leg on, its parts one behind the other. -/
theorem recordImage_from_ramp : (recordImage h r).drop 12 =
    rampImage (rampOf r) ++ (optionalLegImage (nextLegOf r) ++ ([legSourceByte r.primary] ++ (backupImage r.backup ++
      [oneByte (maskOf [r.onBackup, r.clip]), noticesByte r.notices]))) := by
  simp only [recordImage, List.append_assoc]
  rfl

theorem recordImage_from_next : (recordImage h r).drop 23 =
    optionalLegImage (nextLegOf r) ++ ([legSourceByte r.primary] ++ (backupImage r.backup ++
      [oneByte (maskOf [r.onBackup, r.clip]), noticesByte r.notices])) := by
  have hdrop : (recordImage h r).drop 23 = ((recordImage h r).drop 12).drop 11 := (List.drop_drop (i := 11) (j := 12)).symm
  rw [hdrop, recordImage_from_ramp]
  exact List.drop_left' (rampImage_length _)

theorem recordImage_from_primary : (recordImage h r).drop 30 =
    legSourceByte r.primary :: (backupImage r.backup ++ [oneByte (maskOf [r.onBackup, r.clip]), noticesByte r.notices]) := by
  have hdrop : (recordImage h r).drop 30 = ((recordImage h r).drop 23).drop 7 := (List.drop_drop (i := 7) (j := 23)).symm
  rw [hdrop, recordImage_from_next]
  exact List.drop_left' (optionalLegImage_length _)

theorem recordImage_from_backup : (recordImage h r).drop 31 =
    backupImage r.backup ++ [oneByte (maskOf [r.onBackup, r.clip]), noticesByte r.notices] := by
  have hdrop : (recordImage h r).drop 31 = ((recordImage h r).drop 30).drop 1 := (List.drop_drop (i := 1) (j := 30)).symm
  rw [hdrop, recordImage_from_primary]
  rfl

theorem recordImage_from_flags : (recordImage h r).drop 34 = [oneByte (maskOf [r.onBackup, r.clip]), noticesByte r.notices] := by
  have hdrop : (recordImage h r).drop 34 = ((recordImage h r).drop 31).drop 3 := (List.drop_drop (i := 3) (j := 31)).symm
  rw [hdrop, recordImage_from_backup]
  exact List.drop_left' (backupImage_length _)

theorem recordImage_ramp : ((recordImage h r).drop 12).take 11 = rampImage (rampOf r) := by
  rw [recordImage_from_ramp]
  exact List.take_left' (rampImage_length _)

theorem recordImage_next : ((recordImage h r).drop 23).take 7 = optionalLegImage (nextLegOf r) := by
  rw [recordImage_from_next]
  exact List.take_left' (optionalLegImage_length _)

theorem recordImage_backup : ((recordImage h r).drop 31).take 3 = backupImage r.backup := by
  rw [recordImage_from_backup]
  exact List.take_left' (backupImage_length _)

/-- A byte of the image behind those dropped. -/
theorem getElem?_of_drop {bytes rest : List Byte} {n : Nat} (hd : bytes.drop n = rest) (k : Nat) : bytes[n + k]? = rest[k]? := by
  rw [← hd, List.getElem?_drop]

end

theorem rampOf_isSome_iff (r : Record) : (rampOf r).isSome = true ↔ r.phase ≠ .live := by
  unfold rampOf
  cases r.phase <;> simp

theorem nextLegOf_eq_some (r : Record) (leg : Leg) : nextLegOf r = some leg ↔ ∃ ramp, r.phase = .ramping ramp (some leg) := by
  unfold nextLegOf
  cases r.phase <;> simp

theorem nextLegOf_isSome_iff (r : Record) : (nextLegOf r).isSome = true ↔ ∃ ramp next, r.phase = .ramping ramp (some next) := by
  rw [Option.isSome_iff_exists]
  simp only [nextLegOf_eq_some]
  exact exists_comm

theorem rampOf_of_ramp {r : Record} {ramp : Ramp} (h : r.phase = .retiring ramp ∨ ∃ next, r.phase = .ramping ramp next) :
    rampOf r = some ramp := by
  rcases h with h | ⟨next, h⟩ <;> rw [rampOf, h]

theorem rampImage_some (ramp : Ramp) :
    rampImage (some ramp) = legCoded ramp.fading ++ numberCoded ramp.length ++ numberCoded ramp.position := by
  rw [rampImage, legImage_eq_legCoded, twoBytes_eq_numberCoded, twoBytes_eq_numberCoded]

theorem backupImage_some (b : Backup) : backupImage (some b) = [BitVec.ofNat 8 b.source.val,
    BitVec.ofNat 8 ((if b.onLost then 1 else 0) + if b.onQuiet then 2 else 0), BitVec.ofNat 8 b.code.val] := by
  rw [backupImage, oneByte_maskOf_two]
  rfl

/-- Settles O15, part by part of the image. -/
theorem readRouteReturnsTheImage : Obligations.ReadRouteReturnsTheImage := by
  intro h i r s hh hn
  have himage := readRoute_valid (checkHandle_names.2 hn)
  refine ⟨recordImage h r, answeredWith_of_answer (exec_readRoute h s) hh himage, recordImage_length h r,
    wordBytes_eq_numberCoded h, ?_, rfl, ⟨_, rfl, ?_, ?_, ?_, ?_⟩, legImage_eq_legCoded r.current,
    fun ramp hramp => ?_, fun hlive => ?_, fun ramp next hnext => ?_, fun hnone => ?_, ?_, fun b hb => ?_, fun hnone => ?_, ?_, ?_⟩
  · exact congrArg some (phaseCode_eq r.phase)
  · rw [getLsbD_oneByte_maskOf _ (by decide)]
    exact rampOf_isSome_iff r
  · rw [getLsbD_oneByte_maskOf _ (by decide)]
    exact nextLegOf_isSome_iff r
  · rw [getLsbD_oneByte_maskOf _ (by decide)]
    exact Option.isSome_iff_ne_none
  · have hlt := maskOf_lt_two_pow [(rampOf r).isSome, (nextLegOf r).isSome, r.backup.isSome]
    exact (BitVec.toNat_ofNat _ _).trans_lt ((Nat.mod_le _ _).trans_lt hlt)
  · rw [recordImage_ramp, rampOf_of_ramp hramp, rampImage_some]
  · rw [recordImage_ramp, rampOf, hlive]
    rfl
  · rw [recordImage_next, (nextLegOf_eq_some r next).2 ⟨ramp, hnext⟩]
    exact legImage_eq_legCoded next
  · have hno : nextLegOf r = none :=
      Option.eq_none_iff_forall_ne_some.2 fun leg hl => ((nextLegOf_eq_some r leg).1 hl).elim fun ramp => hnone ramp leg
    rw [recordImage_next, hno]
    rfl
  · exact (getElem?_of_drop (recordImage_from_primary h r) 0).trans (congrArg some (legSourceByte_eq r.primary))
  · rw [recordImage_backup, hb, backupImage_some]
  · rw [recordImage_backup, hnone]
    rfl
  · rw [getElem?_of_drop (recordImage_from_flags h r) 0, ← oneByte_maskOf_two]
    rfl
  · rw [getElem?_of_drop (recordImage_from_flags h r) 1, ← noticesByte_eq]
    rfl

/-! ## FIND_DEST (R35) -/

section
variable {rt : RouteTable} {d : Byte} {e : Fin 192}

theorem findDest_range (h : 192 ≤ d.toNat) : findDest rt d = ⟨.range, []⟩ := by
  rw [findDest, toIndex_eq_none.2 h]
  rfl

theorem findDest_none (hd : d.toNat = e.val) (hm : rt.destMap[e] = none) : findDest rt d = ⟨.none, []⟩ := by
  rw [findDest, hd, toIndex_val]
  simp only [hm]
  rfl

theorem findDest_some {i : Fin 160} (hd : d.toNat = e.val) (hm : rt.destMap[e] = some i) :
    findDest rt d = ⟨.ok, [rt.slots[i].gen, BitVec.ofNat 8 i.val]⟩ := by
  rw [findDest, hd, toIndex_val]
  simp only [hm, wordBytes_makeHandle]
  rfl

end

/-- Settles O16. -/
theorem findDestReadsTheMap : Obligations.FindDestReadsTheMap := by
  refine fun d s hh => ⟨fun hd => ?_, fun e he => ⟨fun hm => ?_, fun i hm => ?_⟩⟩
  · exact answeredWith_of_answer (exec_findDest d s) hh (findDest_range hd)
  · exact answeredWith_of_answer (exec_findDest d s) hh (findDest_none he hm)
  · exact answeredWith_of_answer (exec_findDest d s) hh (findDest_some he hm)

/-! ## ACK_NOTICES (R39) -/

/-- The record `r` of the slot `i` with the notices left that no entry of its handle names (R39). -/
def acknowledged (rt : RouteTable) (entries : List NoticeAck) (i : Fin 160) (r : Record) : Record :=
  { r with notices :=
    ⟨r.notices.failoverTaken && !entries.any fun a => decide (HandleNames rt a.handle i r) && a.mask.getLsbD 0,
      r.notices.backupUnusable && !entries.any fun a => decide (HandleNames rt a.handle i r) && a.mask.getLsbD 1,
      r.notices.backupLost && !entries.any fun a => decide (HandleNames rt a.handle i r) && a.mask.getLsbD 2⟩ }

/-- The code that an entry of ACK_NOTICES records (R39, R180). -/
def handleCode (c : HandleCheck) : Byte :=
  match c with
  | .valid _ _ => 0x00#8
  | .range => 0x02#8
  | .stale => 0x03#8

section
variable {rt rt' : RouteTable} {i : Fin 160} {r : Record}

theorem acknowledged_nil : acknowledged rt [] i r = r := by
  simp [acknowledged]

/-- An entry that does not name the record leaves it. -/
theorem acknowledged_other {a : NoticeAck} (hn : ¬ HandleNames rt a.handle i r) : acknowledged rt [a] i r = r := by
  simp only [acknowledged, List.any_cons, List.any_nil, decide_eq_false hn, Bool.false_and, Bool.or_false, Bool.not_false, Bool.and_true]

theorem acknowledged_named {a : NoticeAck} (hn : HandleNames rt a.handle i r) :
    acknowledged rt [a] i r = { r with notices := clearNotices r.notices a.mask } := by
  simp only [acknowledged, List.any_cons, List.any_nil, decide_eq_true hn, Bool.true_and, Bool.or_false, clearNotices]

/-- The table after the entries acknowledged: nothing changes but notices (R39). -/
structure Acknowledged (rt : RouteTable) (entries : List NoticeAck) (rt' : RouteTable) : Prop where
  rest  : rt' = { rt with slots := rt'.slots }
  slots : ∀ i : Fin 160, rt'.slots[i] = ⟨rt.slots[i].gen, rt.slots[i].record.map (acknowledged rt entries i)⟩

theorem ackNotice_acknowledged (rt : RouteTable) (a : NoticeAck) : Acknowledged rt [a] (ackNotice rt a).1 := by
  have kept (hno : ∀ i r, ¬ HandleNames rt a.handle i r) : Acknowledged rt [a] rt := by
    refine ⟨rfl, fun i => ?_⟩
    cases hr : rt.slots[i].record with
    | none => exact congrArg (RecordSlot.mk _) hr
    | some r => exact congrArg (RecordSlot.mk _) (hr.trans (congrArg some (acknowledged_other (hno i r)).symm))
  unfold ackNotice
  split
  · next j q hc =>
    have hj := checkHandle_names.1 hc
    refine ⟨rfl, fun i => ?_⟩
    by_cases hi : i = j
    · subst hi
      rw [setRecord_slot_self, hj.2.1]
      exact congrArg (fun r => RecordSlot.mk _ (some r)) (acknowledged_named hj).symm
    · rw [setRecord_slot_other hi]
      cases hr : rt.slots[i].record with
      | none => exact congrArg (RecordSlot.mk _) hr
      | some r =>
        have hne : ¬ HandleNames rt a.handle i r := fun hn => hi (Fin.ext (hn.1.symm.trans hj.1))
        exact congrArg (RecordSlot.mk _) (hr.trans (congrArg some (acknowledged_other hne).symm))
  · next hc => exact kept fun i r hn => by rw [checkHandle_names.2 hn] at hc; cases hc
  · next hc => exact kept fun i r hn => by rw [checkHandle_names.2 hn] at hc; cases hc

/-- Acknowledging changes no generation and frees no record: a handle is judged as before. -/
theorem Acknowledged.names {entries : List NoticeAck} (h : Acknowledged rt entries rt') (hd : Handle) (hr : rt.slots[i].record = some r) :
    HandleNames rt' hd i (acknowledged rt entries i r) ↔ HandleNames rt hd i r := by
  rw [HandleNames, HandleNames, h.slots, hr]
  simp

theorem Acknowledged.handleCode {entries : List NoticeAck} (h : Acknowledged rt entries rt') (hd : Handle) :
    handleCode (checkHandle rt' hd) = handleCode (checkHandle rt hd) := by
  cases hc : checkHandle rt hd with
  | range => rw [checkHandle_range_iff.2 (checkHandle_range_iff.1 hc)]
  | stale =>
    obtain ⟨i, hi, hnone⟩ := checkHandle_stale_iff.1 hc
    rw [checkHandle_stale_iff.2 ⟨i, hi, by rw [h.slots]; simpa using hnone⟩]
  | valid i r =>
    have hn := checkHandle_names.1 hc
    rw [checkHandle_names.2 ((h.names hd hn.2.1).2 hn)]
    rfl

/-- Entries acknowledged one after the other clear what they clear together. -/
theorem Acknowledged.cons {a : NoticeAck} {entries : List NoticeAck} {rt'' : RouteTable} (h : Acknowledged rt [a] rt')
    (h' : Acknowledged rt' entries rt'') : Acknowledged rt (a :: entries) rt'' := by
  refine ⟨by rw [h'.rest, h.rest], fun i => ?_⟩
  rw [h'.slots, h.slots]
  cases hr : rt.slots[i].record with
  | none => rfl
  | some r =>
    have hnames (b : NoticeAck) := h.names b.handle hr
    have hboth : acknowledged rt' entries i (acknowledged rt [a] i r) = acknowledged rt (a :: entries) i r := by
      rw [acknowledged]
      simp only [hnames]
      simp [acknowledged, Bool.and_assoc]
    rw [Option.map_some, Option.map_some, hboth, Option.map_some]

theorem ackNoticeList_acknowledged (rt : RouteTable) (entries : List NoticeAck) :
    Acknowledged rt entries (ackNoticeList rt entries).1 ∧
      (ackNoticeList rt entries).2 = entries.map fun a => handleCode (checkHandle rt a.handle) := by
  induction entries generalizing rt with
  | nil =>
    refine ⟨⟨rfl, fun i => ?_⟩, rfl⟩
    have hid : acknowledged rt [] i = id := funext fun _ => acknowledged_nil
    rw [hid, Option.map_id]
    rfl
  | cons a rest ih =>
    have ha := ackNotice_acknowledged rt a
    obtain ⟨htable, hcodes⟩ := ih (ackNotice rt a).1
    have hcode : statusCode (ackNotice rt a).2 = handleCode (checkHandle rt a.handle) := by
      unfold ackNotice
      split <;> next hc => rw [hc]; rfl
    refine ⟨ha.cons htable, ?_⟩
    rw [ackNoticeList, List.map_cons, hcode, hcodes]
    simp only [ha.handleCode]

end

theorem countHasLayout_iff (count : Byte) : countHasLayout count = true ↔ 1 ≤ count.toNat ∧ count.toNat ≤ 32 := decide_eq_true_iff

theorem ackNotices_range {rt : RouteTable} {count : Byte} {entries : List NoticeAck} (h : count.toNat = 0 ∨ 32 < count.toNat) :
    ackNotices rt count entries = (rt, ⟨.range, []⟩) :=
  if_neg fun hc => by
    have := (countHasLayout_iff count).1 hc
    omega

theorem ackNotices_ok {rt : RouteTable} {count : Byte} {entries : List NoticeAck} (h : 1 ≤ count.toNat) (h' : count.toNat ≤ 32) :
    ackNotices rt count entries = ((ackNoticeList rt entries).1, ⟨.ok, entries.map fun a => handleCode (checkHandle rt a.handle)⟩) := by
  rw [← (ackNoticeList_acknowledged rt entries).2]
  exact if_pos ((countHasLayout_iff count).2 ⟨h, h'⟩)

/-- Settles O18: the flag of the one record, and the entries taken one by one. -/
theorem clipAndNoticesAreCleared : Obligations.ClipAndNoticesAreCleared := by
  refine ⟨fun h i r s hh hn => ?_, fun count entries s hh => ⟨fun hc => ?_, fun h1 h32 => ?_⟩⟩
  · exact ⟨_, takenWith_of_route (exec_clearClip h s) hh (clearClip_valid (checkHandle_names.2 hn)), slotHolds_setRecord⟩
  · exact answeredWith_of_route (exec_ackNotices count entries s) hh (ackNotices_range hc)
  · obtain ⟨hrest, hslots⟩ := (ackNoticeList_acknowledged s.route entries).1
    exact ⟨_, takenWith_of_route (exec_ackNotices count entries s) hh (ackNotices_ok h1 h32), hrest, hslots⟩

/-! ## SET_GUARDS and CLEAR_ALL (R31, R60) -/

/-- A request of the Route Table that leaves its slots as they are makes no request for service and starts no pulse (R154). -/
theorem exec_of_route_taken {c : Instr} {s : State} {rt : RouteTable} {r : Response} (h : TakenWith c s { s with route := rt } r)
    (hs : rt.slots = s.route.slots) : exec c s = .next (respond { s with route := rt } r) := by
  have hq : requests { s with route := rt } = requests s := by
    unfold requests
    rw [hs]
  exact h.trans (congrArg _ (settle_of_same ((alertWaiting_respond _ r).trans (alertWaiting_congr hq rfl))))

theorem setGuards_range {rt : RouteTable} {mask : Word} (h : 4096 ≤ mask.toNat) : setGuards rt mask = (rt, ⟨.range, []⟩) :=
  if_neg (Nat.not_lt.2 h)

theorem setGuards_ok {rt : RouteTable} {mask : Word} (h : mask.toNat < 4096) :
    setGuards rt mask = ({ rt with guards := mask.setWidth 12 }, ⟨.ok, numberCoded mask.toNat⟩) := by
  have hmask : (mask.setWidth 12).toNat = mask.toNat := by
    rw [BitVec.toNat_setWidth, Nat.mod_eq_of_lt h]
  have hbytes : guardBytes (mask.setWidth 12) = numberCoded mask.toNat := by rw [guardBytes_eq, hmask]
  rw [← hbytes]
  exact if_pos h

/-- Settles O19. -/
theorem guardsAndClearAllRequests : Obligations.GuardsAndClearAllRequests := by
  refine ⟨fun mask s hh => ⟨fun hm => ?_, fun hm => ⟨mask.setWidth 12, fun p => ?_, ?_⟩⟩, fun force s hh => ?_⟩
  · exact answeredWith_of_route (exec_setGuards mask s) hh (setGuards_range hm)
  · rw [BitVec.getLsbD_setWidth, decide_eq_true p.isLt, Bool.true_and]
  · exact exec_of_route_taken (takenWith_of_route (exec_setGuards mask s) hh (setGuards_ok hm)) rfl
  · have hforce : s.route.clearAll.getD false = (s.route.clearAll == some true) := by
      rcases s.route.clearAll with _ | _ | _ <;> rfl
    have htaken := exec_of_route_taken (takenWith_of_request (exec_clearAll force s) hh) (askClearAll_slots s.route force)
    rw [htaken, askClearAll, hforce]
    rfl

end Sys2Proof.Machine
end

section
/-!
ADD_EDIT at the Edit Stage (R44): its seven checks, each by the first that fails.
-/
namespace Sys2Proof.Machine

section
variable {rt : RouteTable} {es : EditStage} {slot : Byte} {i : Fin 4} {list : List ListedEdit} {f : EditFields} {e : Edit}
  {d : Fin 192} {h : Handle}

/-! ## Checks 1 and 2 -/

theorem addEdit_noSlot (hslot : 4 ≤ slot.toNat) : addEdit rt es slot f = (es, ⟨.range, []⟩) := by
  rw [addEdit, toIndex_eq_none.2 hslot]
  rfl

theorem addEdit_notOpen (hi : slot.toNat = i.val) (ho : isOpened es.slots[i] = false) :
    addEdit rt es slot f = (es, ⟨.notOpen, []⟩) := by
  rw [addEdit, hi, toIndex_val]
  cases hs : es.slots[i] with
  | opened list =>
    rw [hs] at ho
    cases ho
  | _ => simp only [hs, statusOnly]

/-- The other checks judge the edit against the list of the OPEN slot. -/
theorem addEdit_opened (hi : slot.toNat = i.val) (hs : es.slots[i] = .opened list) :
    addEdit rt es slot f = match judgeEdit rt list f with
      | .error code => (es, ⟨code, []⟩)
      | .ok e => (setSlot es i (.opened (list ++ [e])), ⟨.ok, [BitVec.ofNat 8 list.length, BitVec.ofNat 8 (list.length + 1)]⟩) := by
  rw [addEdit, hi, toIndex_val]
  simp only [hs]
  rfl

/-! ## Checks 3 to 7 -/

theorem judgeEdit_range (hf : decodeEdit f = none) : judgeEdit rt list f = .error .range := by
  rw [judgeEdit, hf]

theorem judgeEdit_refusedDest {code : Status} (hf : decodeEdit f = some e) (hd : editDest rt e = .error code) :
    judgeEdit rt list f = .error code := by
  simp only [judgeEdit, hf, hd]

theorem judgeEdit_dest (hf : decodeEdit f = some e) (hd : editDest rt e = .ok d) :
    judgeEdit rt list f = if 16 ≤ list.length then .error .batchFull
      else if list.any fun x => x.dest == d then .error .duplicate else .ok ⟨e, d⟩ := by
  simp only [judgeEdit, hf, hd]
  rfl

/-! ## The destination of an edit (check 5) -/

theorem editDest_carries (he : CarriesHandle e h) : editDest rt e = handleDest rt h := by
  rcases he with ⟨p, rfl⟩ | ⟨code, rfl⟩ | rfl <;> rfl

theorem handleDest_range (hc : 160 ≤ h.toNat % 256) : handleDest rt h = .error .range := by
  rw [handleDest, checkHandle_range_iff.2 hc]

theorem handleDest_stale (hc : HandleStale rt h) : handleDest rt h = .error .stale := by
  rw [handleDest, checkHandle_stale_iff.2 hc]

theorem handleDest_names {k : Fin 160} {r : Record} (hc : HandleNames rt h k r) : handleDest rt h = .ok r.dest := by
  rw [handleDest, checkHandle_names.2 hc]

theorem editDest_ok
    (hd : (∃ leg b, e = .create d leg b) ∨ ∃ h k r, HandleNames rt h k r ∧ r.dest = d ∧ CarriesHandle e h) : editDest rt e = .ok d := by
  rcases hd with ⟨leg, b, rfl⟩ | ⟨h, k, r, hn, rfl, he⟩
  · rfl
  · rw [editDest_carries he, handleDest_names hn]

theorem any_dest_iff : (list.any fun x => x.dest == d) = true ↔ ∃ x ∈ list, x.dest = d := by
  simp [List.any_eq_true]

end

/-- Settles O22, check by check. -/
theorem addEditJudgesInOrder : Obligations.AddEditJudgesInOrder := by
  intro slot f s hh
  have answered {code : Status} (ha : addEdit s.route s.edit slot f = (s.edit, ⟨code, []⟩)) : AnsweredWith (.addEdit slot f) s ⟨code, []⟩ :=
    answeredWith_of_edit (act := fun s => addEdit s.route s.edit slot f) (exec_addEdit slot f s) hh ha
  refine ⟨fun hslot => answered (addEdit_noSlot hslot), fun i hi => ⟨fun ho => answered (addEdit_notOpen hi ho), fun list hs => ?_⟩⟩
  have refused {code : Status} (hj : judgeEdit s.route list f = .error code) : AnsweredWith (.addEdit slot f) s ⟨code, []⟩ :=
    answered (by rw [addEdit_opened hi hs, hj])
  refine ⟨fun hf => refused (judgeEdit_range hf), fun e hf => ⟨fun h he => ⟨fun hr => ?_, fun hst => ?_⟩, fun d hd => ?_⟩⟩
  · exact refused (judgeEdit_refusedDest hf ((editDest_carries he).trans (handleDest_range hr)))
  · exact refused (judgeEdit_refusedDest hf ((editDest_carries he).trans (handleDest_stale hst)))
  have hjudged := judgeEdit_dest (list := list) hf (editDest_ok hd)
  refine ⟨fun hfull => refused (hjudged.trans (if_pos hfull)), fun hroom hdup => refused ?_, fun hroom hnew => ?_⟩
  · rw [hjudged, if_neg (Nat.not_le.2 hroom), if_pos (any_dest_iff.2 hdup)]
  · have hno : ¬ (list.any fun x => x.dest == d) = true := fun hany => by
      obtain ⟨x, hx, hxd⟩ := any_dest_iff.1 hany
      exact hnew x hx hxd
    rw [if_neg (Nat.not_le.2 hroom), if_neg hno] at hjudged
    have hadd := addEdit_opened (rt := s.route) (f := f) hi hs
    rw [hjudged] at hadd
    exact ⟨_, takenWith_of_edit (act := fun s => addEdit s.route s.edit slot f) (exec_addEdit slot f s) hh hadd, rfl,
      bankSet_get_self _ _ _, fun j hj => bankSet_other _ _ hj⟩

end Sys2Proof.Machine
end

section
/-!
Leg changes (R25, R64 to R69): the bringing in of a leg put into the table, MODIFY, RETIRE and REVERT at apply, CLEAR_ALL, and ramps over
their ticks.
-/
namespace Sys2Proof.Machine

/-! ## The table after a leg change (R65, R66) -/

section
variable {rt : RouteTable} {i : Fin 160} {r : Record} {leg : Leg}

theorem slotFreed_freeRecord (rt : RouteTable) (i : Fin 160) (d : Fin 192) : SlotFreed rt (freeRecord rt i d) i d where
  slot := bankModify_get_self _ _ _
  others _ hj := bankModify_other _ _ hj
  entry := bankSet_get_self _ _ _
  map _ he := bankSet_other _ _ he
  rest := rfl

/-- The bringing in on a LIVE record, with the ramp length written out (R64, R65). -/
theorem bringInLive_eq (r : Record) (leg : Leg) : bringInLive r leg =
    if leg.code.val = 0 then if leg.retire then none else some { r with current := leg, phase := .live }
    else some { r with
      current := leg
      phase := if leg.retire then .retiring ⟨r.current, 2 ^ (leg.code.val + 4), 0⟩
        else .ramping ⟨r.current, 2 ^ (leg.code.val + 4), 0⟩ none } := by
  by_cases hc : leg.code.val = 0
  · rw [if_pos hc]
    exact if_pos hc
  · rw [if_neg hc, bringInLive_ramp hc, rampLength, if_neg hc]

theorem record_live_eta (h : r.phase = .live) : { r with current := leg, phase := .live } = { r with current := leg } := by
  rw [← h]

/-- A leg change on a record that is not RETIRING, put into the table. -/
theorem legChanged_putRecord (hret : ¬ Retiring r) : LegChanged rt (putRecord rt i r.dest (bringIn r leg)) i r leg := by
  unfold LegChanged
  split
  · next hlive =>
    rw [bringIn_live hlive, bringInLive_eq]
    split
    · split
      · exact slotFreed_freeRecord rt i r.dest
      · rw [record_live_eta hlive]
        exact slotHolds_setRecord
    · split
      · exact slotHolds_setRecord
      · exact slotHolds_setRecord
  · next hramp =>
    rw [bringIn_ramping hramp]
    exact slotHolds_setRecord
  · next ramp hramp => exact absurd ⟨ramp, hramp⟩ hret

/-! ## MODIFY, RETIRE, REVERT at apply (R51 to R53) -/

theorem changeOutcome_eq (hret : ¬ Retiring r) : changeOutcome r = if r.phase = .live then .applied else .deferred := by
  unfold changeOutcome
  split
  · next h => rw [if_neg (by rw [h]; nofun)]
  · next h => rw [if_pos h]
  · next ramp h => exact absurd ⟨ramp, h⟩ hret

variable {h : Handle}

/-- A handle that names no record is neither RANGE nor valid at apply, but STALE (R49). -/
theorem checkHandle_refused (hc : 160 ≤ h.toNat % 256 ∨ HandleStale rt h) : checkHandle rt h = .range ∨ checkHandle rt h = .stale :=
  hc.imp checkHandle_range_iff.2 checkHandle_stale_iff.2

theorem applyModify_stale (hc : 160 ≤ h.toNat % 256 ∨ HandleStale rt h) (p : LegPatch) : applyModify rt h p = ⟨.stale, h, rt⟩ := by
  rcases checkHandle_refused hc with hc | hc <;> rw [applyModify, hc]

theorem applyRetire_stale (hc : 160 ≤ h.toNat % 256 ∨ HandleStale rt h) (code : Fin 8) : applyRetire rt h code = ⟨.stale, h, rt⟩ := by
  rcases checkHandle_refused hc with hc | hc <;> rw [applyRetire, hc]

theorem applyRevert_stale (hc : 160 ≤ h.toNat % 256 ∨ HandleStale rt h) : applyRevert rt h = ⟨.stale, h, rt⟩ := by
  rcases checkHandle_refused hc with hc | hc <;> rw [applyRevert, hc]

variable (hn : HandleNames rt h i r)
include hn

/-- MODIFY on a record: PROTECTED, ROUTE_RETIRING, else the leg change (R51). -/
theorem applyModify_names (p : LegPatch) : applyModify rt h p =
    if Guarded rt r.dest then ⟨.guarded, h, rt⟩ else if isRetiring r then ⟨.routeRetiring, h, rt⟩
    else ⟨changeOutcome r, h, putRecord rt i r.dest (bringIn (modifiedRecord r p) (patchLeg (latestLeg r) p))⟩ := by
  rw [applyModify, checkHandle_names.2 hn]
  rfl

/-- RETIRE on a record: PROTECTED, ALREADY, else the leg change (R52). -/
theorem applyRetire_names (code : Fin 8) : applyRetire rt h code =
    if Guarded rt r.dest then ⟨.guarded, h, rt⟩ else if isRetiring r then ⟨.already, h, rt⟩
    else ⟨changeOutcome r, h, putRecord rt i r.dest (bringIn r (retireLeg r code))⟩ := by
  rw [applyRetire, checkHandle_names.2 hn]
  rfl

/-- REVERT on a record: PROTECTED, ROUTE_RETIRING, NOT_ON_BACKUP, else the leg change (R53). -/
theorem applyRevert_names : applyRevert rt h =
    if Guarded rt r.dest then ⟨.guarded, h, rt⟩ else if isRetiring r then ⟨.routeRetiring, h, rt⟩
    else if r.onBackup then
      ⟨changeOutcome r, h, putRecord rt i r.dest (bringIn { r with onBackup := false } (revertLeg r (backupCode r)))⟩
    else ⟨.notOnBackup, h, rt⟩ := by
  rw [applyRevert, checkHandle_names.2 hn]
  rfl

end

/-- A MODIFY changes neither the legs nor the state of a record by itself (R51). -/
theorem modifiedRecord_eq (r : Record) (p : LegPatch) : modifiedRecord r p = match p.source with
    | none => r
    | some src => { r with primary := src, onBackup := false } := by
  unfold modifiedRecord
  cases p.source <;> rfl

theorem modifiedRecord_keeps (r : Record) (p : LegPatch) : (modifiedRecord r p).phase = r.phase ∧ (modifiedRecord r p).dest = r.dest := by
  unfold modifiedRecord
  cases p.source <;> exact ⟨rfl, rfl⟩

theorem latestLeg_eq (r : Record) : latestLeg r = match r.phase with
    | .ramping _ (some next) => next
    | .ramping _ none => r.current
    | .live => r.current
    | .retiring _ => r.current := rfl

/-- Settles O29: the checks in their order, and the leg change. -/
theorem modifyChangesTheLeg : Obligations.ModifyChangesTheLeg := by
  refine fun rt h p => ⟨fun hc => applyModify_stale hc p, fun i r hn => ⟨fun hg => ?_, fun hg hret => ?_, fun hg hret latest hlatest => ?_⟩⟩
  · exact (applyModify_names hn p).trans (if_pos hg)
  · exact ((applyModify_names hn p).trans (if_neg hg)).trans (if_pos ((isRetiring_iff r).2 hret))
  · have happlied := ((applyModify_names hn p).trans (if_neg hg)).trans (if_neg (mt (isRetiring_iff r).1 hret))
    obtain rfl : latest = latestLeg r := hlatest.trans (latestLeg_eq r).symm
    obtain ⟨hphase, hdest⟩ := modifiedRecord_keeps r p
    have hchanged := legChanged_putRecord (rt := rt) (i := i) (r := modifiedRecord r p) (leg := patchLeg (latestLeg r) p)
      (by rwa [Retiring, hphase])
    rw [changeOutcome_eq hret] at happlied
    refine ⟨_, happlied, ?_⟩
    rw [hdest] at hchanged
    have hmodified := modifiedRecord_eq r p
    generalize modifiedRecord r p = r' at hchanged hmodified ⊢
    subst hmodified
    exact hchanged

/-- Settles O30, like O29 for the two edits. -/
theorem retireAndRevertChangeTheLeg : Obligations.RetireAndRevertChangeTheLeg := by
  constructor
  · refine fun rt h code => ⟨fun hc => applyRetire_stale hc code, fun i r hn => ⟨fun hg => ?_, fun hg hret => ?_, fun hg hret => ?_⟩⟩
    · exact (applyRetire_names hn code).trans (if_pos hg)
    · exact ((applyRetire_names hn code).trans (if_neg hg)).trans (if_pos ((isRetiring_iff r).2 hret))
    · have happlied := ((applyRetire_names hn code).trans (if_neg hg)).trans (if_neg (mt (isRetiring_iff r).1 hret))
      rw [changeOutcome_eq hret] at happlied
      exact ⟨_, happlied, legChanged_putRecord hret⟩
  · refine fun rt h => ⟨applyRevert_stale, fun i r hn => ⟨fun hg => ?_, fun hg hret => ?_,
      fun hg hret hoff => ?_, fun b hg hret hon hb => ?_⟩⟩
    · exact (applyRevert_names hn).trans (if_pos hg)
    · exact ((applyRevert_names hn).trans (if_neg hg)).trans (if_pos ((isRetiring_iff r).2 hret))
    · have hjudged := ((applyRevert_names hn).trans (if_neg hg)).trans (if_neg (mt (isRetiring_iff r).1 hret))
      exact hjudged.trans (if_neg (by rw [hoff]; nofun))
    · have hjudged := ((applyRevert_names hn).trans (if_neg hg)).trans (if_neg (mt (isRetiring_iff r).1 hret))
      have happlied := hjudged.trans (if_pos hon)
      have hcode : backupCode r = b.code := by rw [backupCode, hb]
      rw [changeOutcome_eq hret, hcode] at happlied
      exact ⟨_, happlied, legChanged_putRecord (r := { r with onBackup := false }) hret⟩

/-! ## CLEAR_ALL_EXECUTE (R61, R62) -/

/-- What a CLEAR_ALL makes of a record: nothing in a guarded port without force or of a RETIRING one, else the retire leg of ramp code 1
is brought in (R61). -/
theorem clearRecord_eq (rt : RouteTable) (force : Bool) (r : Record) : clearRecord rt force r =
    if Guarded rt r.dest ∧ force = false then r
    else match r.phase with
      | .retiring _ => r
      | .live => { r with
          current := { r.current with source := .silence, code := 1, retire := true }
          phase := .retiring ⟨r.current, 32, 0⟩ }
      | .ramping ramp none => { r with
          phase := .ramping ramp (some { r.current with source := .silence, code := 1, retire := true }) }
      | .ramping ramp (some next) => { r with
          phase := .ramping ramp (some { next with source := .silence, code := 1, retire := true }) } := by
  have hcond : (isRetiring r || (isGuarded rt r.dest && !force)) = true ↔ isRetiring r = true ∨ Guarded rt r.dest ∧ force = false := by
    rw [Bool.or_eq_true, Bool.and_eq_true, Bool.not_eq_true']
    rfl
  rw [clearRecord]
  simp only [hcond]
  by_cases hkept : Guarded rt r.dest ∧ force = false
  · rw [if_pos (.inr hkept), if_pos hkept]
  · rw [if_neg hkept]
    cases hp : r.phase with
    | live =>
      rw [if_neg (by simp [isRetiring, hp, hkept]), bringIn_live hp,
        bringInLive_ramp (show (1 : Fin 8).val ≠ 0 by decide), retireLeg, latestLeg, hp]
      rfl
    | ramping ramp next =>
      rw [if_neg (by simp [isRetiring, hp, hkept]), bringIn_ramping hp, retireLeg, latestLeg, hp]
      cases next <;> rfl
    | retiring ramp => rw [if_pos (.inl (by rw [isRetiring, hp]))]

theorem carryOutClearAll_none {rt : RouteTable} (h : rt.clearAll = none) (es : EditStage) : carryOutClearAll rt es = (rt, es) := by
  rw [carryOutClearAll, h]

theorem carryOutClearAll_some {rt : RouteTable} {force : Bool} (h : rt.clearAll = some force) (es : EditStage) :
    carryOutClearAll rt es = (clearRoutes rt force, clearBatches es) := by
  rw [carryOutClearAll, h]

theorem clearRoutes_slot (rt : RouteTable) (force : Bool) (i : Fin 160) :
    (clearRoutes rt force).slots[i] = ⟨rt.slots[i].gen, rt.slots[i].record.map (clearRecord rt force)⟩ := by
  rw [clearRoutes_slots]
  exact bankMap_get _ _ _ _

theorem clearBatches_slot (es : EditStage) (i : Fin 4) : (clearBatches es).slots[i] = clearBatchSlot es.slots[i] := by
  rw [clearBatches_slots]
  exact bankMap_get _ _ _ _

/-- Settles O32: the records and the batch slots, one by one. -/
theorem clearAllRetiresTheTable : Obligations.ClearAllRetiresTheTable := by
  refine ⟨fun s hr hnone => ?_, fun s force hr hsome => ?_⟩
  · refine exec_eq_self_of_doneWith (doneWith_of_event (exec_clearAllExecute s) hr) ?_
    rw [clearAllStep, carryOutClearAll_none hnone]
  · have hdone := doneWith_of_event (exec_clearAllExecute s) hr
    rw [clearAllStep, carryOutClearAll_some hsome] at hdone
    refine ⟨_, _, hdone, rfl, rfl, rfl, fun i => ?_, fun i => ?_⟩
    · refine (clearBatches_slot s.edit i).trans ?_
      cases s.edit.slots[i] <;> rfl
    · refine (clearRoutes_slot s.route force i).trans ?_
      exact congrArg (fun f => RecordSlot.mk s.route.slots[i].gen (s.route.slots[i].record.map f))
        (funext fun r => clearRecord_eq s.route force r)

/-! ## Ramps over their ticks (R67 to R69) -/

/-- The state of a record on a ramp with no leg queued: RETIRING on a retire leg, else RAMPING (R65). -/
def rampPhase (retire : Bool) (ramp : Ramp) : Phase := if retire then .retiring ramp else .ramping ramp none

section
variable {r : Record} {ramp : Ramp}

theorem rampFinishes_iff (ramp : Ramp) : rampFinishes ramp = true ↔ ramp.length ≤ ramp.position + 1 := decide_eq_true_iff

theorem advanceRecord_rampPhase {retire : Bool} (h : r.phase = rampPhase retire ramp) : advanceRecord r =
    if rampFinishes ramp then if retire then none else some { r with phase := .live }
    else some { r with phase := rampPhase retire (rampStep ramp) } := by
  cases retire with
  | false => rw [advanceRecord_ramping h, endRamp_alone h]; rfl
  | true => rw [advanceRecord_retiring h]; rfl

/-- Before its last position, a ramp moves by one position in each tick (R67). -/
theorem advanceTimes_before {retire : Bool} (k : Nat) (h : r.phase = rampPhase retire ramp) (hk : ramp.position + k < ramp.length) :
    advanceTimes k r = some { r with phase := rampPhase retire { ramp with position := ramp.position + k } } := by
  induction k generalizing r ramp with
  | zero =>
    rw [Nat.add_zero, ← h]
    rfl
  | succ k ih =>
    have hgoes : ¬ rampFinishes ramp = true := by
      rw [rampFinishes_iff]
      omega
    rw [advanceTimes, advanceRecord_rampPhase h, if_neg hgoes, Option.bind_some,
      ih (ramp := rampStep ramp) rfl (by simp only [rampStep]; omega)]
    simp only [rampStep, Nat.add_assoc, Nat.add_comm 1 k]

/-- The tick that brings the position to its end completes the ramp (R67 to R69). -/
theorem advanceTimes_ends {retire : Bool} (k : Nat) (h : r.phase = rampPhase retire ramp) (hk : ramp.position + (k + 1) = ramp.length) :
    advanceTimes (k + 1) r = if retire then none else some { r with phase := .live } := by
  induction k generalizing r ramp with
  | zero =>
    have hends : rampFinishes ramp = true := (rampFinishes_iff ramp).2 hk.ge
    rw [advanceTimes, advanceRecord_rampPhase h, if_pos hends]
    split <;> rfl
  | succ k ih =>
    have hgoes : ¬ rampFinishes ramp = true := by
      rw [rampFinishes_iff]
      omega
    rw [advanceTimes, advanceRecord_rampPhase h, if_neg hgoes, Option.bind_some,
      ih (ramp := rampStep ramp) rfl (by simp only [rampStep]; omega)]

theorem advanceTimes_one (r : Record) : advanceTimes 1 r = advanceRecord r :=
  Option.bind_fun_some (advanceRecord r)

theorem rampEndAt_waits {rt : RouteTable} {i : Fin 160} {next : Option Leg} (hi : rt.slots[i].record = some r)
    (h : r.phase = .ramping ramp next) (hk : ramp.position + 1 < ramp.length) : rampEndAt rt i = rt := by
  simp only [rampEndAt, hi, h]
  exact if_neg (by rw [rampFinishes_iff]; omega)

theorem rampEndAt_ends {rt : RouteTable} {i : Fin 160} {next : Option Leg} (hi : rt.slots[i].record = some r)
    (h : r.phase = .ramping ramp next) (hk : ramp.position + 1 = ramp.length) : rampEndAt rt i = putRecord rt i r.dest (endRamp r) := by
  simp only [rampEndAt, hi, h]
  exact if_pos ((rampFinishes_iff ramp).2 hk.ge)

theorem retireEndAt_waits {rt : RouteTable} {i : Fin 160} (hi : rt.slots[i].record = some r) (h : r.phase = .retiring ramp)
    (hk : ramp.position + 1 < ramp.length) : retireEndAt rt i = rt := by
  simp only [retireEndAt, hi, h]
  exact if_neg (by rw [rampFinishes_iff]; omega)

theorem retireEndAt_ends {rt : RouteTable} {i : Fin 160} (hi : rt.slots[i].record = some r) (h : r.phase = .retiring ramp)
    (hk : ramp.position + 1 = ramp.length) : retireEndAt rt i = freeRecord rt i r.dest := by
  simp only [retireEndAt, hi, h, endRamp_retiring h, putRecord_none]
  exact if_pos ((rampFinishes_iff ramp).2 hk.ge)

end

/-- Settles O34: a ramp over its length, one tick of a ramp, and the two rows at its end. -/
theorem rampsRunTheirLength : Obligations.RampsRunTheirLength := by
  refine ⟨fun r leg hlive hc => ?_, fun r hlive => (advanceTimes_one r).trans (advanceRecord_live hlive),
    fun r ramp next hp => ⟨fun hk => ?_, fun hk => ?_⟩, fun r ramp hp => ⟨fun hk => ?_, fun hk => ?_⟩,
    fun i r ramp next s hr hi hp => ⟨fun hk => ?_, fun hk => ?_⟩, fun i r ramp s hr hi hp => ⟨fun hk => ?_, fun hk => ?_⟩⟩
  · refine ⟨_, (bringIn_live hlive).trans ((bringInLive_eq r leg).trans (if_neg hc)), fun k hk => ?_, ?_⟩
    · have hbefore := advanceTimes_before (r := { r with
        current := leg, phase := rampPhase leg.retire ⟨r.current, 2 ^ (leg.code.val + 4), 0⟩ }) k rfl (by simpa using hk)
      simp only [Nat.zero_add] at hbefore
      exact hbefore
    · obtain ⟨k, hlength⟩ := Nat.exists_eq_succ_of_ne_zero (Nat.two_pow_pos (leg.code.val + 4)).ne'
      have hends := advanceTimes_ends (r := { r with
        current := leg, phase := rampPhase leg.retire ⟨r.current, 2 ^ (leg.code.val + 4), 0⟩ }) k rfl (by simp [hlength])
      rw [hlength]
      rw [hlength] at hends
      exact hends
  · rw [advanceTimes_one, advanceRecord_ramping hp, if_neg (by rw [rampFinishes_iff]; omega)]
    rfl
  · rw [advanceTimes_one, advanceRecord_ramping hp, if_pos ((rampFinishes_iff ramp).2 hk.ge)]
    cases next with
    | none => exact endRamp_alone hp
    | some leg => exact (endRamp_next hp).trans (bringInLive_eq { r with phase := .live } leg)
  · rw [advanceTimes_one, advanceRecord_retiring hp, if_neg (by rw [rampFinishes_iff]; omega)]
    rfl
  · rw [advanceTimes_one, advanceRecord_retiring hp, if_pos ((rampFinishes_iff ramp).2 hk.ge)]
  · refine exec_eq_self_of_doneWith (doneWith_of_event (exec_rampEnd i s) hr) ?_
    rw [rampEndAt_waits hi hp hk]
  · have hdone := doneWith_of_event (exec_rampEnd i s) hr
    rw [rampEndAt_ends hi hp hk] at hdone
    refine ⟨_, hdone, ?_⟩
    cases next with
    | none =>
      rw [endRamp_alone hp]
      exact slotHolds_setRecord
    | some leg =>
      rw [endRamp_next hp, ← bringIn_live (r := { r with phase := .live }) rfl]
      exact legChanged_putRecord (r := { r with phase := .live }) (by simp [Retiring])
  · refine exec_eq_self_of_doneWith (doneWith_of_event (exec_retireRampEnd i s) hr) ?_
    rw [retireEndAt_waits hi hp hk]
  · have hdone := doneWith_of_event (exec_retireRampEnd i s) hr
    rw [retireEndAt_ends hi hp hk] at hdone
    exact ⟨_, hdone, slotFreed_freeRecord s.route i r.dest⟩

end Sys2Proof.Machine
end

section
/-!
The sample tick at the Route Table (R28): what steps 1 and 2 can reach, step 3 on the table they leave, steps 4 and 5 destination by
destination and record by record.
-/
namespace Sys2Proof.Machine

/-! ## Steps 1 and 2 (R49, R61) -/

/-- Nothing of the table changes but slots and map entries. -/
abbrev RecordsChanged (rt rt' : RouteTable) : Prop := rt' = { rt with slots := rt'.slots, destMap := rt'.destMap }

section
variable {rt rt' rt'' : RouteTable}

theorem RecordsChanged.then (h : RecordsChanged rt rt') (h' : RecordsChanged rt' rt'') : RecordsChanged rt rt'' := by
  rw [RecordsChanged] at h h' ⊢
  rw [h', h]

theorem recordsChanged_putRecord (rt : RouteTable) (i : Fin 160) (d : Fin 192) (o : Option Record) :
    RecordsChanged rt (putRecord rt i d o) := by
  cases o <;> rfl

theorem recordsChanged_applyEdit (rt : RouteTable) (e : Edit) : RecordsChanged rt (applyEdit rt e).table := by
  have change (i : Fin 160) (d : Fin 192) (o : Option Record) := recordsChanged_putRecord rt i d o
  cases e with
  | create d leg b =>
    simp only [applyEdit, applyCreate]
    repeat' split
    all_goals rfl
  | modify h p =>
    simp only [applyEdit, applyModify]
    split
    · split
      · rfl
      · split
        · rfl
        · exact change _ _ _
    all_goals rfl
  | retire h code =>
    simp only [applyEdit, applyRetire]
    split
    · split
      · rfl
      · split
        · rfl
        · exact change _ _ _
    all_goals rfl
  | revert h =>
    simp only [applyEdit, applyRevert]
    split
    · split
      · rfl
      · split
        · rfl
        · split
          · exact change _ _ _
          · rfl
    all_goals rfl

theorem recordsChanged_applyEdits (rt : RouteTable) (edits : List ListedEdit) : RecordsChanged rt (applyEdits rt edits).1 := by
  induction edits generalizing rt with
  | nil => rfl
  | cons e es ih => exact RecordsChanged.then (recordsChanged_applyEdit rt e.edit) (ih _)

theorem recordsChanged_applyBatch (rt : RouteTable) (edits : List ListedEdit) (m : BatchMode) (a : Byte) :
    RecordsChanged rt (applyBatch rt edits m a).1 := by
  rcases applyBatch_table rt edits m a with h | h
  · rw [h]
    exact recordsChanged_applyEdits rt edits
  · rw [h]

theorem recordsChanged_applySlot (w : RouteTable × EditStage) (i : Fin 4) : RecordsChanged w.1 (applySlot w i).1 := by
  unfold applySlot
  split
  · split
    · exact recordsChanged_applyBatch _ _ _ _
    · rfl
  · rfl
  · rfl
  · rfl

theorem recordsChanged_applyDue (rt : RouteTable) (es : EditStage) : RecordsChanged rt (applyDue rt es).1 := by
  have hfold (is : List (Fin 4)) (w : RouteTable × EditStage) : RecordsChanged w.1 (is.foldl applySlot w).1 := by
    induction is generalizing w with
    | nil => rfl
    | cons i is ih => exact RecordsChanged.then (recordsChanged_applySlot w i) (ih _)
  exact hfold es.queue (rt, es)

/-- Step 1 leaves no CLEAR_ALL pending, and changes no more than the slots (R61). -/
theorem carryOutClearAll_table (rt : RouteTable) (es : EditStage) :
    (carryOutClearAll rt es).1 = { rt with slots := (carryOutClearAll rt es).1.slots, clearAll := none } := by
  cases h : rt.clearAll with
  | none =>
    rw [carryOutClearAll_none h, ← h]
  | some force =>
    rw [carryOutClearAll_some h]
    rfl

end

/-- Steps 1 and 2 reach slots and map entries, and end a pending CLEAR_ALL (R28). -/
theorem tableAtStep3_frame (s : State) : tableAtStep3 s =
    { s.route with slots := (tableAtStep3 s).slots, destMap := (tableAtStep3 s).destMap, clearAll := none } := by
  have hdue : RecordsChanged (carryOutClearAll s.route s.edit).1 (tableAtStep3 s) := recordsChanged_applyDue _ _
  exact hdue.trans (by rw [carryOutClearAll_table])

/-! ## Step 3 (R70 to R78) -/

theorem tableAtStep4_slot (s : State) (i : Fin 160) : (tableAtStep4 s).slots[i] =
    ⟨(tableAtStep3 s).slots[i].gen, (tableAtStep3 s).slots[i].record.map
      (failoverRecord s.monitor.sources ⟨s.route.pendingLost, s.route.pendingQuiet⟩)⟩ := by
  have hlost : (tableAtStep3 s).pendingLost = s.route.pendingLost := by rw [tableAtStep3_frame]
  have hquiet : (tableAtStep3 s).pendingQuiet = s.route.pendingQuiet := by rw [tableAtStep3_frame]
  rw [tableAtStep4, takeTriggers_slots, failover_slots, hlost, hquiet]
  exact bankMap_get _ _ _ _

/-! ## Steps 4 and 5 (R67, R89, R90) -/

section
variable {rt : RouteTable} {sources : Vector Source 192} {d : Fin 192} {i : Fin 160}

theorem destSample_unnamed (hentry : rt.destMap[d] = none) : destSample rt sources d = 0#24 := by
  rw [destSample, hentry]

theorem destSample_free (hentry : rt.destMap[d] = some i) (hrecord : rt.slots[i].record = none) : destSample rt sources d = 0#24 := by
  simp only [destSample, hentry, hrecord]

theorem destSample_record {r : Record} (hentry : rt.destMap[d] = some i) (hrecord : rt.slots[i].record = some r) :
    destSample rt sources d = recordSample sources r := by
  simp only [destSample, hentry, hrecord]

end

/-- A slot after steps 4 and 5: its record with the clip flag set on saturation moves on, or becomes FREE (R19, R67). -/
theorem advanceSlot_clipSlot (sources : Vector Source 192) (sl : RecordSlot) : advanceSlot (clipSlot sources sl) = match sl.record with
    | none => sl
    | some r => match advanceTimes 1 { r with clip := r.clip || recordSaturates sources r } with
      | some r' => ⟨sl.gen, some r'⟩
      | none => ⟨if sl.gen = 255#8 then 1#8 else sl.gen + 1#8, none⟩ := by
  cases sl with
  | mk gen record =>
    cases record with
    | none => rfl
    | some r =>
      dsimp only
      rw [advanceTimes_one]
      rfl

section
variable (desk : List DeskArrival) (s : State)

/-- The Route Table after a tick: steps 4 and 5 on the table that steps 1 to 3 leave, then the LOST entries of the tick (R28, R70). -/
theorem tick_table : (tick desk s).route = addTriggers (advanceRamps (computeSamples s.monitor.sources (tableAtStep4 s)))
    (fun n => (worksAtTick desk s)[n].enteredLost) fun _ => false := tick_route desk s

theorem tick_destSample (d : Fin 192) : (tick desk s).route.destSamples[d] = destSample (tableAtStep4 s) s.monitor.sources d := by
  rw [tick_table]
  simp

theorem tick_destMeter (d : Fin 192) : (tick desk s).route.destMeters[d] =
    meterTake s.route.destMeters[d] (destSample (tableAtStep4 s) s.monitor.sources d) := by
  have hmeters : (tableAtStep4 s).destMeters = s.route.destMeters := by
    rw [tableAtStep4, takeTriggers_destMeters, tableAtStep3_frame]
  rw [tick_table]
  simp [hmeters]

theorem tick_slot (i : Fin 160) : (tick desk s).route.slots[i] = advanceSlot (clipSlot s.monitor.sources (tableAtStep4 s).slots[i]) := by
  rw [tick_table]
  simp

theorem tick_entry (d : Fin 192) : (tick desk s).route.destMap[d] = match (tableAtStep4 s).destMap[d] with
    | none => none
    | some i => if (tableAtStep4 s).slots[i].record ≠ none ∧ (tick desk s).route.slots[i].record = none then none else some i := by
  have hentry : (tick desk s).route.destMap[d] =
      mapAfterAdvance (computeSamples s.monitor.sources (tableAtStep4 s)).slots (tableAtStep4 s).destMap[d] := by
    rw [tick_table]
    simp
  rw [hentry]
  cases (tableAtStep4 s).destMap[d] with
  | none => rfl
  | some i =>
    have hfreed : freedByAdvance (computeSamples s.monitor.sources (tableAtStep4 s)).slots[i] = true ↔
        (tableAtStep4 s).slots[i].record ≠ none ∧ (tick desk s).route.slots[i].record = none := by
      rw [tick_slot]
      simp [freedByAdvance, clipSlot, Option.isSome_iff_ne_none]
    simp only [mapAfterAdvance, hfreed]

theorem tick_editStage : (tick desk s).edit = (applyDue (carryOutClearAll s.route s.edit).1 (carryOutClearAll s.route s.edit).2).2 := by
  simp only [tick_edit, routeTick]

end

/-- Settles O37: step 3 record by record, then the samples, the slots, the map and the rest. -/
theorem tickComputesEveryDestination : Obligations.TickComputesEveryDestination := by
  refine fun desk s hwf hr => ⟨⟨takeTriggers_destMap _ _, fun i hi => ?_, fun i r hi => ?_⟩, tick desk s,
    doneWith_of_wellFormed (exec_sampleTick desk s) hwf hr, fun d => ⟨?_, ?_⟩, fun i => ?_, tick_entry desk s,
    ?_, ?_, fun n => ?_, tick_editStage desk s⟩
  · rw [tableAtStep4_slot, hi]
    exact congrArg _ hi.symm
  · rw [tableAtStep4_slot, hi]
    exact ⟨_, rfl, failoverRecord_failedOver (fun _ => rfl) fun _ => rfl⟩
  · rw [tick_destSample]
    cases hentry : (tableAtStep4 s).destMap[d] with
    | none => exact destSample_unnamed hentry
    | some i =>
      dsimp only
      cases hrecord : (tableAtStep4 s).slots[i].record with
      | none => exact destSample_free hentry hrecord
      | some r => exact destSample_record hentry hrecord
  · rw [tick_destMeter, tick_destSample]
    rfl
  · rw [tick_slot]
    generalize (tableAtStep4 s).slots[i] = sl
    exact advanceSlot_clipSlot _ sl
  · rw [tick_table, addTriggers_guards, advanceRamps_guards, computeSamples_guards, tableAtStep4, takeTriggers_guards, tableAtStep3_frame]
  · rw [tick_table, addTriggers_clearAll, advanceRamps_clearAll, computeSamples_clearAll, tableAtStep4, takeTriggers_clearAll,
      tableAtStep3_frame]
  · rw [tick_table]
    simp [tableAtStep4]

end Sys2Proof.Machine
end
